-- ==== Sys2Proof/Word.lean ====
section
/-! DEFINITION. The words the links carry (12, opening: bytes, most significant byte first) and the fixed-size
table every numbered collection of the part is held in. -/
namespace Sys2Proof

/-- One byte of a link or of the serial memory. -/
abbrev Byte := BitVec 8

/-- A 16-bit check code or signed quantity (12, opening; R180). -/
abbrev Word16 := BitVec 16

/-- A collection of exactly `n` numbered items (lines 0 to 95, sets 0 to 15, values 0 to 11 …). -/
structure Table (α : Type) (n : Nat) where
  cells : List α
  size : cells.length = n
  deriving DecidableEq, Repr

/-- Item `i` of the table. -/
def Table.get {α : Type} {n : Nat} (t : Table α n) (i : Fin n) : α :=
  t.cells[i.val]'(by rw [t.size]; exact i.isLt)

/-- The table with item `i` replaced. -/
def Table.set {α : Type} {n : Nat} (t : Table α n) (i : Fin n) (a : α) : Table α n :=
  ⟨t.cells.set i.val a, by rw [List.length_set]; exact t.size⟩

/-- The table that holds `a` everywhere. -/
def Table.fill {α : Type} (n : Nat) (a : α) : Table α n :=
  ⟨List.replicate n a, List.length_replicate⟩

/-- The table whose item `i` is `f i`. -/
def Table.ofFn {α : Type} {n : Nat} (f : Fin n → α) : Table α n :=
  ⟨List.ofFn f, List.length_ofFn⟩

/-- The table with `f` applied to every item. -/
def Table.map {α β : Type} {n : Nat} (f : α → β) (t : Table α n) : Table β n :=
  ⟨t.cells.map f, by rw [List.length_map]; exact t.size⟩

end Sys2Proof
end

