-- ==== Sys2Proof/Syntax.lean ====
section
/-! DEFINITION. The commands: one constructor for each row of spec/opcode_table.json. A management command's row is
the event in which the command in execution at a port is carried out (R158), so its operand is the port; its
parameters are those of the taken frame, which State holds (log 1). -/
namespace Sys2Proof

/-- The two management ports (00 section 4.2). -/
inductive Port where
  | mp0
  | mp1
  deriving DecidableEq, Repr

/-- What a hold can name (R161). -/
inductive Item where
  | line (n : Fin 96)
  | aim (k : Fin 16)
  | lot (k : Fin 16)
  | desk
  deriving DecidableEq, Repr

/-- The events and commands of the part. `rl` is a reader line, `p` a management port. `ready` gives the sampled
HEAD-READY levels of RL0 to RL3 (bit k for RLk) and `straps` the levels of SA2, SA1, SA0 (log 7). -/
inductive Instr where
  | powerOnReset (ready : BitVec 4) (straps : BitVec 3)
  /-- A character's stop bit time ends: its data bits, its parity bit and its stop bit (true at mark) (R17). -/
  | characterComplete (rl : Fin 4) (data : Byte) (parity stop : Bool)
  | breakDetected (rl : Fin 4)
  | framingCharacterReleased (rl : Fin 4)
  | headReadyChange (rl : Fin 4)
  | consumeCharacter (rl : Fin 4)
  | interCharacterTimeout (rl : Fin 4)
  | holdClockExpiry (rl : Fin 4)
  | replyCharacterSent (rl : Fin 4)
  | testCharacterSent (rl : Fin 4)
  | evaluationTake
  | consensusStep
  | finalisationStep
  | overdueStep
  | countdownStep
  | transferStep
  | summary
  | closeInEdge
  | dayTimerTick
  | dayTimerExpiry
  | leaseTick (item : Item)
  | leaseExpiry (item : Item)
  | headerReadComplete
  | loadEnd
  | pageWriteComplete
  | writeTimeout
  | noAnswer
  /-- SSn rises on a command selection in which `bytes` completed (R156). -/
  | commandSelection (p : Port) (bytes : List Byte)
  /-- SSn rises on a collect selection in which `n` bytes completed, the COLLECT byte included (R157). -/
  | collectSelection (p : Port) (n : Nat)
  | enrollLine (p : Port)
  | suspendLine (p : Port)
  | resumeLine (p : Port)
  | withdrawLine (p : Port)
  | setLineAim (p : Port)
  | chemEvent (p : Port)
  | voidPoint (p : Port)
  | readLine (p : Port)
  | readPoint (p : Port)
  | readDrift (p : Port)
  | readAims (p : Port)
  | writeAim (p : Port)
  | writeAimRules (p : Port)
  | setPreload (p : Port)
  | discardPending (p : Port)
  | defineLot (p : Port)
  | makeCurrent (p : Port)
  | retireLot (p : Port)
  | clearLot (p : Port)
  | writeCorrection (p : Port)
  | adoptProposal (p : Port)
  | readLot (p : Port)
  | closeDay (p : Port)
  | readDay (p : Port)
  | writeDesk (p : Port)
  | hold (p : Port)
  | renew (p : Port)
  | release (p : Port)
  | readHolds (p : Port)
  | nextAlert (p : Port)
  | ackAlert (p : Port)
  | setSubscription (p : Port)
  | getAttention (p : Port)
  | setAttention (p : Port)
  | setReader (p : Port)
  | readReader (p : Port)
  | clearReaderFaults (p : Port)
  | testReader (p : Port)
  | saveImage (p : Port)
  | readStore (p : Port)
  | setLock (p : Port)
  | restart (p : Port) (ready : BitVec 4) (straps : BitVec 3)
  | resetPort (p : Port)
  | unknownCommand (p : Port)
  | selectionBegins (p : Port)
  | returnToMarkAfterBreak (rl : Fin 4)
  | closeOutPulseEnd
  deriving DecidableEq, Repr

end Sys2Proof
end

