-- ==== Sys2Proof/Decode.lean ====
section
/-! DEFINITION. The commands that a table word spells: no row of spec/opcode_table.json gives bits, so none does
(log 26). -/
namespace Sys2Proof

/-- The command a table word spells. -/
def decodeTableWord (_nbits _w : Nat) : Option Instr := none

end Sys2Proof
end

