-- ==== Sys2Proof/Config.lean ====
section
/-! DEFINITION. The constants the part is built with, and the free values: what the manual leaves open after an event
that the machine goes on from. Each free value is an opaque function of a counter that State holds, so no proof can see
what it is (log 23). -/
namespace Sys2Proof.Config

/-- Free value: a byte the manual does not state (log 20, log 21). -/
opaque freeByte : Nat → BitVec 8

/-- Free value: whether the stop condition of the page in flight had been sent when a reset cut the save (R179, log 19). -/
opaque freeStopSent : Nat → Bool

/-- The FIFO of a reader line holds up to 64 characters (R19). -/
def fifoDepth : Nat := 64

/-- The intake queue holds up to 24 records (R42). -/
def queueDepth : Nat := 24

/-- The alert list holds up to 32 entries (R139). -/
def listDepth : Nat := 32

/-- The hold table holds up to 8 records (R161). -/
def holdDepth : Nat := 8

/-- A chart ring holds up to 20 points (R71). -/
def ringDepth : Nat := 20

/-- The day number's limit (R117). -/
def lastDay : Nat := 65535

/-- The start byte of a reader frame (R181). -/
def startByte : BitVec 8 := 0xA5#8

/-- The COLLECT byte (R182). -/
def collectByte : BitVec 8 := 0xCC#8

/-- What an address of the serial memory that nothing has written reads as: DESIGN CHOICE (log 18). -/
def blankByte : BitVec 8 := 0xFF#8

end Sys2Proof.Config
end

