-- ==== Sys2Proof/Machine/State.lean ====
section
/-! DEFINITION. The part's state as plain data, and the state after power-on reset. Each block's record follows the
rules named at it; a condition that is absent in the manual is `none` here. -/
namespace Sys2Proof.Machine

/-! ### Reader lines (02) and head calibration (01) -/

/-- FILM or PAPER (R1). -/
inductive ProcessKind where
  | film
  | paper
  deriving DecidableEq, Repr

/-- The four line rates (R17). -/
inductive Rate where
  | r9600
  | r19200
  | r38400
  | r57600
  deriving DecidableEq, Repr

/-- The tags a character in the FIFO can carry (R19). -/
structure Tags where
  parity : Bool
  framing : Bool
  brk : Bool
  overrunAfter : Bool
  deriving DecidableEq, Repr

/-- A character in the receive FIFO (R19). -/
structure FifoChar where
  data : Byte
  tags : Tags
  deriving DecidableEq, Repr

/-- A character withheld because its stop bit was at space (R17, R18): its data bits and its parity bit. -/
structure Withheld where
  data : Byte
  parity : Bool
  deriving DecidableEq, Repr

/-- A patch mark (R10). -/
inductive Mark where
  | unmarked
  | bright
  | opaqued
  deriving DecidableEq, Repr

/-- One density in mD with its patch mark (R9). -/
structure Reading where
  density : Nat
  mark : Mark
  deriving DecidableEq, Repr

/-- A strip record without its day stamp, as the assembler forms it (R27, R43). -/
structure Strip where
  reader : Fin 4
  lab : Nat
  kind : ProcessKind
  code : Nat
  slot : Fin 16
  line : Fin 96
  readings : Table Reading 12
  deriving DecidableEq, Repr

/-- A strip record of the intake queue (R43). -/
structure StripRecord where
  strip : Strip
  day : Nat
  deriving DecidableEq, Repr

/-- The assembler's phase. HUNT, RECEIVING (with the bytes after the start byte) and HELD outside LOOPBACK; hunting
and receiving in LOOPBACK (R38). -/
inductive Phase where
  | hunt
  | receiving (bytes : List Byte)
  | held (strip : Strip)
  deriving DecidableEq, Repr

/-- A head calibration context (R2): the open counts are red, green, blue. -/
inductive Calibration where
  | uncalibrated
  | valid (opens : Table Nat 3) (gate : Nat) (remaining : Nat)
  | spent (opens : Table Nat 3) (gate : Nat)
  deriving DecidableEq, Repr

/-- The NAK codes of reader frames (R181). -/
inductive Nak where
  | crc
  | length
  | kind
  | lineError
  | timeout
  | full
  | notReady
  | notEnrolled
  | suspended
  | lotUnknown
  | wrongProcess
  | lotRetired
  | uncalibrated
  | gateMismatch
  | calWeak
  deriving DecidableEq, Repr

/-- A reply character (section 2.3, R181). -/
inductive Reply where
  | accepted
  | wait
  | nak (c : Nak)
  deriving DecidableEq, Repr

/-- A fault code (R32, R181); SUSPENDED and LOT-RETIRED of the re-check are the NAK codes of the same name. -/
inductive FaultCode where
  | nak (c : Nak)
  | lineGone
  | lotGone
  deriving DecidableEq, Repr

/-- Where a fault arose (R32). -/
inductive Origin where
  | frame
  | evaluation
  deriving DecidableEq, Repr

/-- A line's fault record (R32); `code = none` is the code NONE. -/
structure FaultRecord where
  code : Option FaultCode
  origin : Option Origin
  lab : Option Nat
  day : Option Nat
  count : Nat
  deriving DecidableEq, Repr

/-- The loopback test result (R38). -/
inductive TestResult where
  | noTest
  | running
  | pass
  | crc
  | length
  | kind
  | lineError
  | timeout
  | aborted
  deriving DecidableEq, Repr

/-- A character in the transmitter: a reply or a character of the test frame (R31, R39). -/
inductive TxChar where
  | reply (r : Reply)
  | test (b : Byte)
  deriving DecidableEq, Repr

/-- The character in transmission, with the rate it is sent at (R31: it finishes at the old rate). -/
structure Sending where
  char : TxChar
  rate : Rate
  deriving DecidableEq, Repr

/-- A reader line interface with its head calibration context. -/
structure Reader where
  enable : Bool
  rate : Rate
  loopback : Bool
  calLife : Nat
  phase : Phase
  fifo : List FifoChar
  withheld : Option Withheld
  breakLatch : Bool
  headReady : Bool
  delta : Bool
  cal : Calibration
  fault : FaultRecord
  test : TestResult
  sending : Option Sending
  waiting : List Reply
  testSender : List Byte
  deriving DecidableEq, Repr

/-- A fault record with no fault (R32). -/
def FaultRecord.clear : FaultRecord := ⟨none, none, none, none, 0⟩

/-- A reader line after reset, at a sampled HEAD-READY level (R41). -/
def Reader.reset (headReady : Bool) : Reader :=
  { enable := true, rate := .r19200, loopback := false, calLife := 40, phase := .hunt, fifo := [],
    withheld := none, breakLatch := false, headReady := headReady, delta := false, cal := .uncalibrated,
    fault := FaultRecord.clear, test := .noTest, sending := none, waiting := [], testSender := [] }

/-! ### Line contexts and charts (04) -/

/-- A verdict (R13). -/
inductive Verdict where
  | inside
  | warnHigh
  | actionHigh
  | warnLow
  | actionLow
  deriving DecidableEq, Repr

/-- The direction of a verdict or of a shift (R14). -/
inductive Side where
  | high
  | low
  deriving DecidableEq, Repr

/-- The nine alert kinds, in the order of their codes (R139, section 12.3). -/
inductive AlertKind where
  | warn
  | action
  | warnPair
  | trend
  | recovered
  | lotAttributed
  | lotDrift
  | crossover
  | overdue
  deriving DecidableEq, Repr

/-- The first reading of a rerun point (R54, R72). -/
structure FirstReading where
  readings : Table Reading 12
  values : Table Int 12
  deriving DecidableEq, Repr

/-- The crossover part of a point (R55, R72). -/
structure CrossPart where
  code : Nat
  slot : Fin 16
  readings : Table Reading 12
  values : Table Int 12
  deviations : Table Int 12
  differences : Table Int 12
  deriving DecidableEq, Repr

/-- A point's state (R73). Residuals, final verdicts and the lot-attributed set stand in a FINAL point alone (R72). -/
inductive PointState where
  | provisional
  | final (residuals : Table Int 12) (verdicts : Table Verdict 12) (attributed : Table Bool 12)
  | void
  deriving DecidableEq, Repr

/-- A day point (R72). -/
structure Point where
  day : Nat
  state : PointState
  head : Fin 4
  code : Nat
  slot : Fin 16
  epoch : BitVec 8
  settling : Bool
  doubtful : Bool
  reruns : Nat
  readings : Table Reading 12
  values : Table Int 12
  deviations : Table Int 12
  verdicts : Table Verdict 12
  first : Option FirstReading
  cross : Option CrossPart
  deriving DecidableEq, Repr

/-- The direction of a run (R83). -/
inductive RunDir where
  | flat
  | positive
  | negative
  deriving DecidableEq, Repr

/-- The direction of a slope (R84). -/
inductive SlopeDir where
  | flat
  | up
  | down
  deriving DecidableEq, Repr

/-- A trend filter (R63, R80). -/
structure Filter where
  run : RunDir
  runCount : Nat
  slope : SlopeDir
  slopeCount : Nat
  last : Option Int
  deriving DecidableEq, Repr

/-- A cleared trend filter (R80). -/
def Filter.clear : Filter := ⟨.flat, 0, .flat, 0, none⟩

/-- The states of a line that is not UNUSED (R63). -/
inductive LineState where
  | enrolled
  | active
  | overdue
  | suspended
  deriving DecidableEq, Repr

/-- The context of a line that is not UNUSED (R63). An UNUSED line is `none` in the line table, since R63 fixes every
field of it. `ring` stands oldest first. `waiting` holds values 0 to 11 and then the line level (R143). -/
structure LineCtx where
  state : LineState
  lab : Nat
  kind : ProcessKind
  aim : Fin 16
  epoch : BitVec 8
  epochPoints : Nat
  missed : Nat
  filters : Table Filter 12
  warn : Table (Option Verdict) 12
  ring : List Point
  waiting : Table (Option AlertKind) 13
  deriving DecidableEq, Repr

/-- A line just enrolled or restored (R64, R87). -/
def LineCtx.fresh (state : LineState) (lab : Nat) (kind : ProcessKind) (aim : Fin 16) : LineCtx :=
  { state := state, lab := lab, kind := kind, aim := aim, epoch := 0#8, epochPoints := 0, missed := 0,
    filters := Table.fill 12 Filter.clear, warn := Table.fill 12 none, ring := [], waiting := Table.fill 13 none }

/-- An entry of the lab map (R62). -/
structure MapEntry where
  lab : Nat
  kind : ProcessKind
  line : Fin 96
  deriving DecidableEq, Repr

/-! ### Aim sets (05) -/

/-- The aim offset and control limits of one value (R88). -/
structure ValueAim where
  offset : Int
  la : Int
  lw : Int
  uw : Int
  ua : Int
  deriving DecidableEq, Repr

/-- One part of an aim set (R88). -/
structure AimPart where
  aims : Table ValueAim 12
  run : Nat
  slope : Nat
  settling : Nat
  deriving DecidableEq, Repr

/-- An aim set (R88). The pending-differs flag is `active ≠ pending` (R88) and is not held a second time. -/
structure AimSet where
  kind : ProcessKind
  preload : Bool
  active : AimPart
  pending : AimPart
  deriving DecidableEq, Repr

/-- The default part of an aim set (R100). -/
def AimPart.default : AimPart :=
  { aims := Table.fill 12 ⟨0, -150, -80, 80, 150⟩, run := 7, slope := 6, settling := 3 }

/-- An aim set after reset (R100). -/
def AimSet.default : AimSet :=
  { kind := .film, preload := true, active := AimPart.default, pending := AimPart.default }

/-! ### Strip lots (06) -/

/-- The states of a slot that is not EMPTY; the countdown stands in RETIRING alone (R101). -/
inductive LotState where
  | defined
  | current
  | retiring (countdown : Nat)
  | retired
  deriving DecidableEq, Repr

/-- A declared shift: its direction and signed magnitude (R111). -/
structure Shift where
  side : Side
  magnitude : Int
  deriving DecidableEq, Repr

/-- One value's entry of a last shift record (R111); `shift = none` is the direction NONE. -/
structure ShiftEntry where
  shift : Option Shift
  participants : Nat
  agreeing : Nat
  deriving DecidableEq, Repr

/-- A last shift record (R111). -/
structure ShiftRecord where
  day : Nat
  entries : Table ShiftEntry 12
  deriving DecidableEq, Repr

/-- A slot that is not EMPTY (R101). An EMPTY slot is `none` in the lot table, since R101 fixes every field of it. -/
structure Lot where
  state : LotState
  code : Nat
  kind : ProcessKind
  refs : Table Int 12
  active : Table Int 12
  pending : Table Int 12
  shift : Option ShiftRecord
  proposal : Option (Table (Option Int) 12)
  waiting : Table (Option AlertKind) 12
  deriving DecidableEq, Repr

/-! ### The day unit (07) -/

/-- The day mode (section 7.2). -/
inductive DayMode where
  | alone
  | leader
  | follower
  deriving DecidableEq, Repr

/-- The eight desk settings (section 7.2). -/
structure Desk where
  length : Nat
  window : Nat
  mode : DayMode
  quorum : Nat
  share : Nat
  tolerance : Nat
  overdueLimit : Nat
  crossoverDays : Nat
  deriving DecidableEq, Repr

/-- The desk settings after reset without image (section 7.2). -/
def Desk.default : Desk :=
  { length := 1440, window := 75, mode := .alone, quorum := 5, share := 60, tolerance := 40,
    overdueLimit := 2, crossoverDays := 3 }

/-- The next step of a close pass: its stage and its item (R127). -/
inductive ClosePos where
  | consensus (slot : Fin 16)
  | finalisation (line : Fin 96)
  | overdue (line : Fin 96)
  | countdown (slot : Fin 16)
  | transferAim (set : Fin 16)
  | transferLot (slot : Fin 16)
  | summary
  deriving DecidableEq, Repr

/-- The day state (R120). -/
inductive DayState where
  | dayOpen
  | draining
  | closing (pos : ClosePos)
  | transferWait
  deriving DecidableEq, Repr

/-- The cause of a close (R124). -/
inductive CloseCause where
  | port (p : Port)
  | edge
  | expiry
  deriving DecidableEq, Repr

/-- The closing day and cause of the last taken request (R124). -/
structure LastClose where
  day : Nat
  cause : CloseCause
  deriving DecidableEq, Repr

/-- The totals a pass counts for its summary (R135). -/
structure Tally where
  points : Nat
  overdue : Nat
  shifts : Nat
  done : Nat
  deferred : Nat
  deriving DecidableEq, Repr

/-- A close summary (R135). -/
structure Summary where
  close : LastClose
  tally : Tally
  deriving DecidableEq, Repr

/-- The totals at the beginning of a pass. -/
def Tally.zero : Tally := ⟨0, 0, 0, 0, 0⟩

/-- The day unit (R117 to R138). -/
structure DayUnit where
  number : Nat
  timer : Nat
  state : DayState
  desk : Desk
  firstClose : Bool
  last : Option LastClose
  missedEdge : Bool
  summary : Option Summary
  tally : Tally
  closeOut : Bool
  deriving DecidableEq, Repr

/-- The day unit after reset (R138). -/
def DayUnit.reset : DayUnit :=
  { number := 1, timer := 0, state := .dayOpen, desk := Desk.default, firstClose := true, last := none,
    missedEdge := false, summary := none, tally := Tally.zero, closeOut := false }

/-! ### Alerts (08) -/

/-- The subject of an alert (R139). -/
inductive Subject where
  | line (n : Fin 96)
  | lot (k : Fin 16)
  deriving DecidableEq, Repr

/-- A key: a subject with a value or with none (R139). -/
structure Key where
  subject : Subject
  value : Option (Fin 12)
  deriving DecidableEq, Repr

/-- A set drawn from MP0 and MP1 (R139). -/
structure PortSet where
  mp0 : Bool
  mp1 : Bool
  deriving DecidableEq, Repr

/-- An entry of the alert list (R139). -/
structure AlertEntry where
  number : Fin 32
  serial : BitVec 8
  key : Key
  kind : AlertKind
  day : Nat
  amount : Option Int
  repeats : Nat
  ports : PortSet
  deriving DecidableEq, Repr

/-! ### Management ports (09) -/

/-- The status codes (R159, section 9.2), in the order of their codes. -/
inductive Status where
  | ok
  | badFrame
  | unknown
  | badParam
  | range
  | state
  | held
  | notHeld
  | holdFull
  | stale
  | locked
  | busy
  | storeBusy
  | early
  | full
  | duplicate
  | notFound
  | nothing
  deriving DecidableEq, Repr

/-- A command in execution: the code and the parameters of its frame (R156, R158). -/
structure Taken where
  code : Byte
  params : List Byte
  deriving DecidableEq, Repr

/-- A response in the buffer (R157). -/
structure Response where
  status : Status
  code : Byte
  data : List Byte
  deriving DecidableEq, Repr

/-- The port state byte (R155). -/
inductive PortState where
  | noResponse
  | notReady
  | ready
  deriving DecidableEq, Repr

/-- A selection in progress: the state byte fixed when it began, and whether a reset has discarded it (R155, R170). -/
structure Selection where
  state : PortState
  discarded : Bool
  deriving DecidableEq, Repr

/-- A management port with its subscription and attention state. `shiftedOut` is the model's own record of the bytes
clocked out on MISOn in the last finished selection. -/
structure PortUnit where
  executing : Option Taken
  response : Option Response
  selection : Option Selection
  shiftedOut : List Byte
  subscription : BitVec 9
  masks : BitVec 5
  groups : BitVec 5
  closeFlag : Bool
  lapseFlag : Bool
  readerFlag : Bool
  storeFlag : Bool
  deriving DecidableEq, Repr

/-- A management port after reset (R154, R171): bit k of `masks` open, bit k of `groups` HIGH for cause k. -/
def PortUnit.reset : PortUnit :=
  { executing := none, response := none, selection := none, shiftedOut := [], subscription := 0x1FF#9,
    masks := 0x1F#5, groups := 0x03#5, closeFlag := false, lapseFlag := false, readerFlag := false,
    storeFlag := false }

/-- A hold record (R161). -/
structure Hold where
  item : Item
  owner : Port
  lease : Nat
  deriving DecidableEq, Repr

/-! ### The store interface (10) -/

/-- The causes of LOAD-FAILED and SAVE-FAILED (R174). -/
inductive StoreCause where
  | noAnswer
  | badHeader
  | badCrc
  | badContent
  | writeTimeout
  deriving DecidableEq, Repr

/-- The last outcome (R174). -/
inductive LastOutcome where
  | noOutcome
  | loaded
  | loadFailed (c : StoreCause)
  | saved
  | saveFailed (c : StoreCause)
  deriving DecidableEq, Repr

/-- The store state (R174): LOADING in its two reads, the second with the header's check code (R175), and SAVING with
the body copied at the command (R177). -/
inductive StorePhase where
  | idle
  | loadingHeader
  | loadingBody (check : Word16)
  | saving (body : List Byte)
  deriving DecidableEq, Repr

/-- The store interface (R174); `straps` are the sampled levels of SA2, SA1, SA0 (R172). -/
structure Store where
  phase : StorePhase
  outcome : LastOutcome
  writes : Nat
  straps : BitVec 3
  deriving DecidableEq, Repr

/-- The store after reset: loading has begun (R174). -/
def Store.reset (straps : BitVec 3) : Store := ⟨.loadingHeader, .noOutcome, 0, straps⟩

/-- The serial memory: the cells that do not read as the blank byte, addresses rising (R172, log 18). -/
abbrev Memory := List Host.Cell

/-! ### The whole part -/

/-- The state of the part, the model's counter of free values and its queue of events. -/
structure State where
  readers : Table Reader 4
  heldOrder : List (Fin 4)
  queue : List StripRecord
  drain : Nat
  labMap : List MapEntry
  lines : Table (Option LineCtx) 96
  aims : Table AimSet 16
  lots : Table (Option Lot) 16
  day : DayUnit
  alerts : List AlertEntry
  serials : Table (BitVec 8) 32
  mp0 : PortUnit
  mp1 : PortUnit
  holds : List Hold
  level : Nat
  store : Store
  memory : Memory
  freeCount : Nat
  pending : List Instr
  deriving DecidableEq, Repr

/-- What stops the machine. It has no constructor: no event of the manual stops the part (INVENTORY.md, Faults). Safe:
no run ends in one. -/
inductive Fault where
  deriving DecidableEq, Repr

/-- What the model refuses. -/
inductive Refusal where
  /-- Raised by an arm of `exec` whose command has no meaning yet; no arm raises it now. Safe: the model stops. -/
  | notModelled (mnemonic : String)
  deriving DecidableEq, Repr

/-- The part right after power-on reset (R171 and the reset rules of every chapter): loading has begun, every table is
at its value after reset and the queue of events is empty. HEAD-READY is sampled low and the straps 000 (log 6). -/
def State.reset : State :=
  { readers := Table.fill 4 (Reader.reset false), heldOrder := [], queue := [], drain := 0, labMap := [],
    lines := Table.fill 96 none, aims := Table.fill 16 AimSet.default, lots := Table.fill 16 none,
    day := DayUnit.reset, alerts := [], serials := Table.fill 32 0#8, mp0 := PortUnit.reset, mp1 := PortUnit.reset,
    holds := [], level := 0, store := Store.reset 0#3, memory := [], freeCount := 0, pending := [] }

end Sys2Proof.Machine
end

