-- ==== Sys2Proof/Machine/Ops.lean ====
section
/-! DEFINITION. The named operations over the tables, the ports, the links' byte layouts, the check code and the
serial memory. -/
namespace Sys2Proof.Machine

/-! ### Reading and replacing one item of a table -/

/-- Reader line `rl`. -/
def State.reader (s : State) (rl : Fin 4) : Reader := s.readers.get rl

/-- The state with reader line `rl` replaced. -/
def State.setReader (s : State) (rl : Fin 4) (r : Reader) : State := { s with readers := s.readers.set rl r }

/-- The context of line `n`, `none` when UNUSED (R63). -/
def State.line (s : State) (n : Fin 96) : Option LineCtx := s.lines.get n

/-- The state with the context of line `n` replaced. -/
def State.setLine (s : State) (n : Fin 96) (c : Option LineCtx) : State := { s with lines := s.lines.set n c }

/-- Aim set `k`. -/
def State.aim (s : State) (k : Fin 16) : AimSet := s.aims.get k

/-- The state with aim set `k` replaced. -/
def State.setAim (s : State) (k : Fin 16) (a : AimSet) : State := { s with aims := s.aims.set k a }

/-- Lot slot `k`, `none` when EMPTY (R101). -/
def State.lot (s : State) (k : Fin 16) : Option Lot := s.lots.get k

/-- The state with lot slot `k` replaced. -/
def State.setLot (s : State) (k : Fin 16) (l : Option Lot) : State := { s with lots := s.lots.set k l }

/-- Management port `p`. -/
def State.port (s : State) (p : Port) : PortUnit :=
  match p with
  | .mp0 => s.mp0
  | .mp1 => s.mp1

/-- The state with management port `p` replaced. -/
def State.setPort (s : State) (p : Port) (u : PortUnit) : State :=
  match p with
  | .mp0 => { s with mp0 := u }
  | .mp1 => { s with mp1 := u }

/-- The state with the day unit replaced. -/
def State.setDay (s : State) (d : DayUnit) : State := { s with day := d }

/-- The state with the store interface replaced. -/
def State.setStore (s : State) (t : Store) : State := { s with store := t }

/-- A count that saturates (R32, R53, R70, R83 …). -/
def satSucc (limit n : Nat) : Nat := if n < limit then n + 1 else n

/-! ### Lookups -/

/-- The lab map searched by key (R62, step 1 of R27). -/
def State.findLine (s : State) (lab : Nat) (kind : ProcessKind) : Option (Fin 96) :=
  (s.labMap.find? fun e => e.lab == lab && e.kind == kind).map MapEntry.line

/-- The slot that is not EMPTY and holds `code` (step 3 of R27). -/
def State.findLot (s : State) (code : Nat) : Option (Fin 16) :=
  (List.finRange 16).find? fun k => (s.lot k).any fun l => l.code == code

/-- The hold record that names an item (R161). -/
def State.holdOn (s : State) (i : Item) : Option Hold := s.holds.find? fun h => h.item == i

/-- The port that holds an item (R165). -/
def State.holder (s : State) (i : Item) : Option Port := (s.holdOn i).map Hold.owner

/-- The other port (00 section 4.2). -/
def otherPort : Port → Port
  | .mp0 => .mp1
  | .mp1 => .mp0

/-- Whether the other port holds an item. -/
def State.heldByOther (s : State) (p : Port) (i : Item) : Bool := s.holder i == some (otherPort p)

/-- The store is LOADING (R174). -/
def Store.loading (t : Store) : Bool :=
  match t.phase with
  | .loadingHeader => true
  | .loadingBody _ => true
  | .saving _ => false
  | .idle => false

/-- The store is SAVING (R174). -/
def Store.isSaving (t : Store) : Bool :=
  match t.phase with
  | .loadingHeader => false
  | .loadingBody _ => false
  | .saving _ => true
  | .idle => false

/-- The closing day of the last taken request, 0 before the first (R124). -/
def DayUnit.closingDay (d : DayUnit) : Nat := (d.last.map LastClose.day).getD 0

/-! ### Byte layouts (12, opening) -/

/-- A count or code in one byte. -/
def byte (n : Nat) : Byte := BitVec.ofNat 8 n

/-- Two bytes, high byte first. -/
def bytes16 (n : Nat) : List Byte := [byte (n / 256), byte n]

/-- Four bytes, high byte first. -/
def bytes32 (n : Nat) : List Byte := [byte (n / 16777216), byte (n / 65536), byte (n / 256), byte n]

/-- A signed quantity in 16-bit two's complement. -/
def signed16 (i : Int) : List Byte := bytes16 (BitVec.ofInt 16 i).toNat

/-- A flag byte: 0 clear, 1 set. -/
def flagByte (b : Bool) : Byte := if b then 1#8 else 0#8

/-- The number of two bytes, high byte first. -/
def nat16 (hi lo : Byte) : Nat := hi.toNat * 256 + lo.toNat

/-- The number of four bytes, high byte first. -/
def nat32 (a b c d : Byte) : Nat := ((a.toNat * 256 + b.toNat) * 256 + c.toNat) * 256 + d.toNat

/-- The signed quantity of two bytes, high byte first. -/
def int16 (hi lo : Byte) : Int := (BitVec.ofNat 16 (nat16 hi lo)).toInt

/-- The process kind's code (12, opening): FILM 1, PAPER 2. -/
def ProcessKind.code : ProcessKind → Byte
  | .film => 1#8
  | .paper => 2#8

/-- The process kind of a code, if it names one. -/
def kindOf (b : Byte) : Option ProcessKind :=
  if b = 1#8 then some .film else if b = 2#8 then some .paper else none

/-- The flag of a byte that is 0 or 1. -/
def flagOf (b : Byte) : Option Bool :=
  if b = 0#8 then some false else if b = 1#8 then some true else none

/-- The number of a byte when it lies below `n`. -/
def indexOf (n : Nat) (b : Byte) : Option (Fin n) := if h : b.toNat < n then some ⟨b.toNat, h⟩ else none

/-! ### The check code (R180) -/

/-- One bit enters the check code register: generator x^16 + x^12 + x^5 + 1 (R180). -/
def crcBit (c : Word16) (b : Bool) : Word16 :=
  if c.msb != b then (c <<< 1) ^^^ 0x1021#16 else c <<< 1

/-- One byte enters, most significant bit first (R180). -/
def crcByte (c : Word16) (b : Byte) : Word16 :=
  [7, 6, 5, 4, 3, 2, 1, 0].foldl (fun c i => crcBit c (b.getLsbD i)) c

/-- The check code of some bytes, the register starting at 0xFFFF (R180). -/
def checkCode (bs : List Byte) : Word16 := bs.foldl crcByte 0xFFFF#16

/-- A check code as it is sent and stored, high byte first (R180). -/
def checkBytes (bs : List Byte) : List Byte := bytes16 (checkCode bs).toNat

/-! ### The serial memory (R172, log 18) -/

/-- The bytes of the serial memory (R172: 8 KiB). -/
def memorySize : Nat := 8192

/-- The canonical form: addresses rising, inside the memory, no cell that reads as the blank byte. -/
abbrev Memory.wf (m : Memory) : Prop :=
  List.Pairwise (fun x y : Host.Cell => x.1 < y.1) m ∧ ∀ c ∈ m, c.1 < memorySize ∧ c.2 ≠ Config.blankByte

/-- The byte at an address. -/
def Memory.read : Memory → Nat → Byte
  | [], _ => Config.blankByte
  | (x, c) :: m, a => if a = x then c else Memory.read m a

/-- The memory with one byte written, in canonical form. -/
def Memory.write : Memory → Nat → Byte → Memory
  | [], a, b => if b = Config.blankByte then [] else [(a, b)]
  | (x, c) :: m, a, b =>
    if a < x then (if b = Config.blankByte then (x, c) :: m else (a, b) :: (x, c) :: m)
    else if a = x then (if b = Config.blankByte then m else (a, b) :: m)
    else (x, c) :: Memory.write m a b

/-- The memory with some bytes written from an address upward. -/
def Memory.writeBytes (m : Memory) (a : Nat) : List Byte → Memory
  | [] => m
  | b :: bs => Memory.writeBytes (Memory.write m a b) (a + 1) bs

/-- The `n` bytes from an address upward. -/
def Memory.readBytes (m : Memory) (a : Nat) : Nat → List Byte
  | 0 => []
  | n + 1 => Memory.read m a :: Memory.readBytes m (a + 1) n

end Sys2Proof.Machine
end

