-- ==== Sys2Proof/Machine/Operands.lean ====
section
/-! DEFINITION. The management commands' codes and parameter lengths (R182) and the reading of each command's parameter
bytes, with the refusals of step 3 of R159: BAD-PARAM for a number or code outside its set, RANGE for a quantity
outside its range, in the order of the command's rule (log 15). -/
namespace Sys2Proof.Machine

/-- The commands of R182. -/
inductive Command where
  | enrollLine
  | suspendLine
  | resumeLine
  | withdrawLine
  | setLineAim
  | chemEvent
  | voidPoint
  | readLine
  | readPoint
  | readDrift
  | readAims
  | writeAim
  | writeAimRules
  | setPreload
  | discardPending
  | defineLot
  | makeCurrent
  | retireLot
  | clearLot
  | writeCorrection
  | adoptProposal
  | readLot
  | closeDay
  | readDay
  | writeDesk
  | hold
  | renew
  | release
  | readHolds
  | nextAlert
  | ackAlert
  | setSubscription
  | getAttention
  | setAttention
  | setReader
  | readReader
  | clearReaderFaults
  | testReader
  | saveImage
  | readStore
  | setLock
  | restart
  | resetPort
  deriving DecidableEq, Repr

/-- Every command (R182). -/
def Command.all : List Command :=
  [.enrollLine, .suspendLine, .resumeLine, .withdrawLine, .setLineAim, .chemEvent, .voidPoint, .readLine, .readPoint,
   .readDrift, .readAims, .writeAim, .writeAimRules, .setPreload, .discardPending, .defineLot, .makeCurrent, .retireLot,
   .clearLot, .writeCorrection, .adoptProposal, .readLot, .closeDay, .readDay, .writeDesk, .hold, .renew, .release,
   .readHolds, .nextAlert, .ackAlert, .setSubscription, .getAttention, .setAttention, .setReader, .readReader,
   .clearReaderFaults, .testReader, .saveImage, .readStore, .setLock, .restart, .resetPort]

/-- The command codes (R182). -/
def Command.code : Command → Byte
  | .enrollLine => 0x10#8
  | .suspendLine => 0x11#8
  | .resumeLine => 0x12#8
  | .withdrawLine => 0x13#8
  | .setLineAim => 0x14#8
  | .chemEvent => 0x15#8
  | .voidPoint => 0x16#8
  | .readLine => 0x17#8
  | .readPoint => 0x18#8
  | .readDrift => 0x19#8
  | .readAims => 0x20#8
  | .writeAim => 0x21#8
  | .writeAimRules => 0x22#8
  | .setPreload => 0x23#8
  | .discardPending => 0x24#8
  | .defineLot => 0x30#8
  | .makeCurrent => 0x31#8
  | .retireLot => 0x32#8
  | .clearLot => 0x33#8
  | .writeCorrection => 0x34#8
  | .adoptProposal => 0x35#8
  | .readLot => 0x36#8
  | .closeDay => 0x40#8
  | .readDay => 0x41#8
  | .writeDesk => 0x42#8
  | .hold => 0x50#8
  | .renew => 0x51#8
  | .release => 0x52#8
  | .readHolds => 0x53#8
  | .nextAlert => 0x60#8
  | .ackAlert => 0x61#8
  | .setSubscription => 0x62#8
  | .getAttention => 0x63#8
  | .setAttention => 0x64#8
  | .setReader => 0x70#8
  | .readReader => 0x71#8
  | .clearReaderFaults => 0x72#8
  | .testReader => 0x73#8
  | .saveImage => 0x80#8
  | .readStore => 0x81#8
  | .setLock => 0x90#8
  | .restart => 0x91#8
  | .resetPort => 0x92#8

/-- The parameter lengths P (R182). -/
def Command.paramLen : Command → Nat
  | .enrollLine => 4
  | .suspendLine => 1
  | .resumeLine => 1
  | .withdrawLine => 1
  | .setLineAim => 2
  | .chemEvent => 2
  | .voidPoint => 3
  | .readLine => 1
  | .readPoint => 2
  | .readDrift => 1
  | .readAims => 1
  | .writeAim => 12
  | .writeAimRules => 5
  | .setPreload => 2
  | .discardPending => 1
  | .defineLot => 30
  | .makeCurrent => 1
  | .retireLot => 1
  | .clearLot => 1
  | .writeCorrection => 4
  | .adoptProposal => 1
  | .readLot => 1
  | .closeDay => 0
  | .readDay => 0
  | .writeDesk => 9
  | .hold => 3
  | .renew => 3
  | .release => 2
  | .readHolds => 0
  | .nextAlert => 0
  | .ackAlert => 2
  | .setSubscription => 2
  | .getAttention => 0
  | .setAttention => 2
  | .setReader => 5
  | .readReader => 1
  | .clearReaderFaults => 1
  | .testReader => 1
  | .saveImage => 0
  | .readStore => 0
  | .setLock => 1
  | .restart => 0
  | .resetPort => 0

/-- Whether a code names a command (step 1 of R159). -/
def knownCode (b : Byte) : Bool := Command.all.any fun c => c.code == b

/-- A value that must be there, or the refusal. -/
def need {α : Type} (o : Option α) (st : Status) : Except Status α :=
  match o with
  | some a => .ok a
  | none => .error st

/-- A condition that must hold, or the refusal. -/
def check (b : Bool) (st : Status) : Except Status Unit := if b then .ok () else .error st

/-- No parameters. -/
def parseNone : List Byte → Except Status Unit
  | [] => .ok ()
  | _ => .error .badParam

/-- One number below `n`, BAD-PARAM outside. -/
def parseIndex (n : Nat) : List Byte → Except Status (Fin n)
  | [a] => need (indexOf n a) .badParam
  | _ => .error .badParam

/-- A lab id lies in 1 to 65534 (R62). -/
def labOk (lab : Nat) : Bool := decide (1 ≤ lab) && decide (lab ≤ 65534)

/-- ENROLL-LINE: lab id, process kind, aim set (R64). -/
def parseEnroll : List Byte → Except Status (Nat × ProcessKind × Fin 16)
  | [a, b, k, m] => do
    check (labOk (nat16 a b)) .range
    let aim ← need (indexOf 16 m) .range
    let kind ← need (kindOf k) .badParam
    .ok (nat16 a b, kind, aim)
  | _ => .error .badParam

/-- SET-LINE-AIM: line, aim set (R97). -/
def parseSetLineAim : List Byte → Except Status (Fin 96 × Fin 16)
  | [a, m] => do
    let n ← need (indexOf 96 a) .badParam
    let aim ← need (indexOf 16 m) .range
    .ok (n, aim)
  | _ => .error .badParam

/-- CHEM-EVENT: line, event (R81); true is NEW-MIX. -/
def parseChem : List Byte → Except Status (Fin 96 × Bool)
  | [a, e] => do
    let n ← need (indexOf 96 a) .badParam
    let mix ← need (if e = 1#8 then some true else if e = 2#8 then some false else none) .badParam
    .ok (n, mix)
  | _ => .error .badParam

/-- VOID-POINT: line, day (R74). -/
def parseVoid : List Byte → Except Status (Fin 96 × Nat)
  | [a, h, l] => do
    let n ← need (indexOf 96 a) .badParam
    .ok (n, nat16 h l)
  | _ => .error .badParam

/-- READ-POINT: line, age 0 to 19 (R76). -/
def parsePoint : List Byte → Except Status (Fin 96 × Nat)
  | [a, g] => do
    let n ← need (indexOf 96 a) .badParam
    check (decide (g.toNat < 20)) .range
    .ok (n, g.toNat)
  | _ => .error .badParam

/-- WRITE-AIM: set, value, aim offset, LA, LW, UW, UA (R92). -/
def parseWriteAim : List Byte → Except Status (Fin 16 × Fin 12 × ValueAim)
  | [k, v, o1, o2, a1, a2, b1, b2, c1, c2, d1, d2] => do
    let set ← need (indexOf 16 k) .badParam
    let value ← need (indexOf 12 v) .badParam
    .ok (set, value, ⟨int16 o1 o2, int16 a1 a2, int16 b1 b2, int16 c1 c2, int16 d1 d2⟩)
  | _ => .error .badParam

/-- The operands of WRITE-AIM-RULES. -/
structure AimRules where
  set : Fin 16
  kind : ProcessKind
  run : Nat
  slope : Nat
  settling : Nat
  deriving DecidableEq, Repr

/-- WRITE-AIM-RULES: set, process kind, R, S, settling count (R93). -/
def parseAimRules : List Byte → Except Status AimRules
  | [k, q, r, l, c] => do
    let set ← need (indexOf 16 k) .badParam
    let kind ← need (kindOf q) .badParam
    .ok ⟨set, kind, r.toNat, l.toNat, c.toNat⟩
  | _ => .error .badParam

/-- SET-PRELOAD: set, mode (R94). -/
def parsePreload : List Byte → Except Status (Fin 16 × Bool)
  | [k, m] => do
    let set ← need (indexOf 16 k) .badParam
    let mode ← need (flagOf m) .badParam
    .ok (set, mode)
  | _ => .error .badParam

/-- Consecutive pairs of bytes as signed quantities. -/
def int16s : List Byte → List Int
  | a :: b :: rest => int16 a b :: int16s rest
  | _ => []

/-- A list of exactly twelve as a table. -/
def twelve {α : Type} (l : List α) : Option (Table α 12) := if h : l.length = 12 then some ⟨l, h⟩ else none

/-- The operands of DEFINE-LOT. -/
structure LotOperands where
  slot : Fin 16
  code : Nat
  kind : ProcessKind
  refs : Table Int 12
  deriving DecidableEq, Repr

/-- Whether a number lies in a range, both ends included (00 section 4.1). -/
def within (lo hi i : Int) : Bool := decide (lo ≤ i) && decide (i ≤ hi)

/-- DEFINE-LOT: slot, lot code, process kind, twelve references (R104). -/
def parseDefineLot : List Byte → Except Status LotOperands
  | k :: c1 :: c2 :: c3 :: c4 :: q :: refs => do
    let slot ← need (indexOf 16 k) .badParam
    check (decide (1 ≤ nat32 c1 c2 c3 c4)) .range
    let table ← need (twelve (int16s refs)) .badParam
    check (table.cells.all (within (-4000) 4000)) .range
    let kind ← need (kindOf q) .badParam
    .ok ⟨slot, nat32 c1 c2 c3 c4, kind, table⟩
  | _ => .error .badParam

/-- WRITE-CORRECTION: slot, value, correction (R110). -/
def parseCorrection : List Byte → Except Status (Fin 16 × Fin 12 × Int)
  | [k, v, h, l] => do
    let slot ← need (indexOf 16 k) .badParam
    let value ← need (indexOf 12 v) .badParam
    check (within (-500) 500 (int16 h l)) .range
    .ok (slot, value, int16 h l)
  | _ => .error .badParam

/-- The day mode of a code (section 12.3). -/
def dayModeOf (b : Byte) : Option DayMode :=
  if b = 0#8 then some .alone else if b = 1#8 then some .leader else if b = 2#8 then some .follower else none

/-- The eight settings lie in their ranges (section 7.2). -/
def Desk.inRange (d : Desk) : Bool :=
  decide (600 ≤ d.length) && decide (d.length ≤ 2160) && [25, 50, 75, 100].contains d.window &&
  decide (3 ≤ d.quorum) && decide (d.quorum ≤ 24) && [50, 60, 75, 90].contains d.share &&
  decide (10 ≤ d.tolerance) && decide (d.tolerance ≤ 200) &&
  decide (1 ≤ d.overdueLimit) && decide (d.overdueLimit ≤ 7) &&
  decide (1 ≤ d.crossoverDays) && decide (d.crossoverDays ≤ 7)

/-- The desk settings of the nine bytes of WRITE-DESK (R182), before their ranges are checked. -/
def deskOf : List Byte → Option Desk
  | [l1, l2, w, m, q, c, t, o, x] =>
    (dayModeOf m).map fun mode =>
      ⟨nat16 l1 l2, w.toNat, mode, q.toNat, c.toNat, t.toNat, o.toNat, x.toNat⟩
  | _ => none

/-- WRITE-DESK (R119). -/
def parseDesk (bs : List Byte) : Except Status Desk := do
  let d ← need (deskOf bs) .badParam
  check d.inRange .range
  .ok d

/-- The item of an item kind and an index (R161, R162). -/
def itemOf (k i : Byte) : Option Item :=
  if k = 1#8 then (indexOf 96 i).map Item.line
  else if k = 2#8 then (indexOf 16 i).map Item.aim
  else if k = 3#8 then (indexOf 16 i).map Item.lot
  else if k = 4#8 ∧ i = 0#8 then some .desk
  else none

/-- HOLD and RENEW: item kind, index, lease; a lease of 0 stands for 10 minutes (R162, R163). -/
def parseHold : List Byte → Except Status (Item × Nat)
  | [k, i, l] => do
    let item ← need (itemOf k i) .badParam
    check (decide (l.toNat ≤ 60)) .range
    .ok (item, if l.toNat = 0 then 10 else l.toNat)
  | _ => .error .badParam

/-- RELEASE: item kind, index (R163). -/
def parseRelease : List Byte → Except Status Item
  | [k, i] => need (itemOf k i) .badParam
  | _ => .error .badParam

/-- ACK-ALERT: entry number, serial (R147). -/
def parseAck : List Byte → Except Status (Fin 32 × BitVec 8)
  | [k, t] => do
    let number ← need (indexOf 32 k) .badParam
    .ok (number, t)
  | _ => .error .badParam

/-- SET-SUBSCRIPTION: a kind set; a bit above 8 names a kind the part does not have (R141, log 16). -/
def parseKinds : List Byte → Except Status (BitVec 9)
  | [h, l] => do
    check (decide (nat16 h l < 512)) .badParam
    .ok (BitVec.ofNat 9 (nat16 h l))
  | _ => .error .badParam

/-- SET-ATTENTION: mask set, group set; a bit above 4 names a cause the part does not have (R153, log 16). -/
def parseAttention : List Byte → Except Status (BitVec 5 × BitVec 5)
  | [m, g] => do
    check (decide (m.toNat < 32)) .badParam
    check (decide (g.toNat < 32)) .badParam
    .ok (BitVec.ofNat 5 m.toNat, BitVec.ofNat 5 g.toNat)
  | _ => .error .badParam

/-- The rate of a code (section 12.3). -/
def rateOf (b : Byte) : Option Rate :=
  if b = 1#8 then some .r9600 else if b = 2#8 then some .r19200
  else if b = 3#8 then some .r38400 else if b = 4#8 then some .r57600 else none

/-- A rate's code (section 12.3). -/
def Rate.code : Rate → Byte
  | .r9600 => 1#8
  | .r19200 => 2#8
  | .r38400 => 3#8
  | .r57600 => 4#8

/-- The operands of SET-READER. -/
structure ReaderSettings where
  rl : Fin 4
  enable : Bool
  rate : Rate
  loopback : Bool
  calLife : Nat
  deriving DecidableEq, Repr

/-- SET-READER: line, enable, rate, loopback, CAL-LIFE (R34). -/
def parseSetReader : List Byte → Except Status ReaderSettings
  | [a, e, r, b, c] => do
    let rl ← need (indexOf 4 a) .badParam
    let enable ← need (flagOf e) .badParam
    let rate ← need (rateOf r) .badParam
    let loopback ← need (flagOf b) .badParam
    check (decide (1 ≤ c.toNat)) .range
    .ok ⟨rl, enable, rate, loopback, c.toNat⟩
  | _ => .error .badParam

/-- SET-LOCK: level 0 to 3 (R168). -/
def parseLock : List Byte → Except Status Nat
  | [a] => do
    check (decide (a.toNat ≤ 3)) .range
    .ok a.toNat
  | _ => .error .badParam

end Sys2Proof.Machine
end

