-- ==== Sys2Proof/Machine/Commands.lean ====
section
/-! DEFINITION. The path every management command takes (R158, R159): the command in execution at the port is checked
step by step, acts, and leaves its response in the buffer. -/
namespace Sys2Proof.Machine

/-- The commands that change image content, refused STORE-BUSY while SAVING (step 5 of R159). -/
def Command.changesImage : Command → Bool
  | .enrollLine => true
  | .suspendLine => true
  | .resumeLine => true
  | .withdrawLine => true
  | .setLineAim => true
  | .writeAim => true
  | .writeAimRules => true
  | .setPreload => true
  | .defineLot => true
  | .makeCurrent => true
  | .retireLot => true
  | .clearLot => true
  | .writeDesk => true
  | _ => false

/-- Whether the protection level refuses a command (R168). -/
def Command.locked (c : Command) (level : Nat) : Bool :=
  match c with
  | .writeAim => decide (1 ≤ level)
  | .writeAimRules => decide (1 ≤ level)
  | .setPreload => decide (1 ≤ level)
  | .defineLot => decide (2 ≤ level)
  | .writeDesk => decide (2 ≤ level)
  | .enrollLine => decide (3 ≤ level)
  | .withdrawLine => decide (3 ≤ level)
  | .setLineAim => decide (3 ≤ level)
  | _ => false

/-- What a command does once its common checks have passed. -/
inductive Answer where
  | refuse (st : Status)
  | done (s : State) (st : Status) (data : List Byte)
  deriving DecidableEq, Repr

/-- The command completes: its response is written and nothing is in execution (R158). -/
def State.answer (s : State) (p : Port) (code : Byte) (st : Status) (data : List Byte) : State :=
  s.setPort p { s.port p with executing := none, response := some ⟨st, code, data⟩ }

/-- Step 7 of R159: NOT-HELD when nobody holds the item, HELD when the other port does (R165). -/
def holdRefusal (s : State) (p : Port) (item : Option Item) : Option Status :=
  match item with
  | none => none
  | some i =>
    match s.holder i with
    | none => some .notHeld
    | some q => if q = p then none else some .held

/-- Steps 4 to 7 of R159: LOADING, SAVING, the protection level and the hold, in this order. -/
def commonRefusal (s : State) (p : Port) (c : Command) (item : Option Item) : Option Status :=
  if s.store.loading && decide (c ≠ .readStore) then some .busy
  else if s.store.isSaving && c.changesImage then some .storeBusy
  else if c.locked s.level then some .locked
  else holdRefusal s p item

/-- How far a command has come before it acts. -/
inductive Prepared (α : Type) where
  | notNow
  | refused (code : Byte) (st : Status)
  | go (code : Byte) (operands : α)

/-- Steps 1 to 7 of R159 for command `c` at port `p`: `notNow` when another command, or none, is in execution
there. -/
def prepare {α : Type} (c : Command) (p : Port) (s : State) (parse : List Byte → Except Status α)
    (item : α → Option Item) : Prepared α :=
  match (s.port p).executing with
  | none => .notNow
  | some t =>
    if t.code = c.code then
      if t.params.length = c.paramLen then
        match parse t.params with
        | .error st => .refused t.code st
        | .ok a =>
          match commonRefusal s p c (item a) with
          | some st => .refused t.code st
          | none => .go t.code a
      else .refused t.code .badParam
    else .notNow

/-- Command `c` in execution at port `p` is carried out: a refused command changes nothing but the port's buffer (R159);
when it is not in execution there, the event does not occur (log 2). -/
def runCommand {α : Type} (c : Command) (p : Port) (s : State) (parse : List Byte → Except Status α)
    (item : α → Option Item) (act : α → State → Answer) : State :=
  match prepare c p s parse item with
  | .notNow => s
  | .refused code st => s.answer p code st []
  | .go code a =>
    match act a s with
    | .refuse st => s.answer p code st []
    | .done s' st data => s'.answer p code st data

/-- A command that names no held item. -/
def noItem {α : Type} (_ : α) : Option Item := none

end Sys2Proof.Machine
end

