-- ==== Sys2Proof/Machine/Aims.lean ====
section
/-! DEFINITION. The aim commands (05): the validity of a part, the edits of a set by its preload mode, and the commands
WRITE-AIM, WRITE-AIM-RULES, SET-PRELOAD and DISCARD-PENDING. -/
namespace Sys2Proof.Machine

/-! ### Validity (R88) -/

/-- One value's fields lie in their ranges and in the order LA below LW, UW below UA (R88). -/
def ValueAim.valid (a : ValueAim) : Bool :=
  within (-500) 500 a.offset && within (-2000) (-1) a.la && within (-2000) (-1) a.lw &&
  within 1 2000 a.uw && within 1 2000 a.ua && decide (a.la < a.lw) && decide (a.uw < a.ua)

/-- Every field of a part lies in its range and every value keeps the order (R88). -/
def AimPart.valid (q : AimPart) : Bool :=
  q.aims.cells.all ValueAim.valid && decide (5 ≤ q.run) && decide (q.run ≤ 9) &&
  decide (4 ≤ q.slope) && decide (q.slope ≤ 8) && decide (q.settling ≤ 5)

/-! ### Edits -/

/-- A part with one value's five fields replaced (R92). -/
def AimPart.putValue (q : AimPart) (v : Fin 12) (a : ValueAim) : AimPart := { q with aims := q.aims.set v a }

/-- A part with R, S and the settling count replaced (R93). -/
def AimPart.putRules (q : AimPart) (run slope settling : Nat) : AimPart :=
  { q with run := run, slope := slope, settling := settling }

/-- The part a write is validated on: pending with preload ON, active with preload OFF (R91). -/
def AimSet.target (a : AimSet) : AimPart := if a.preload then a.pending else a.active

/-- A write on a set: to the pending part with preload ON, to both parts with preload OFF (R92). -/
def AimSet.edit (a : AimSet) (f : AimPart → AimPart) : AimSet :=
  if a.preload then { a with pending := f a.pending } else { a with active := f a.active, pending := f a.pending }

/-- A set after SET-PRELOAD (R94): switching OFF carries the pending part over. -/
def AimSet.setPreload (a : AimSet) (mode : Bool) : AimSet :=
  if a.preload && !mode then { a with active := a.pending, preload := false } else { a with preload := mode }

/-- A set with its active part copied into its pending part (R95, R96). -/
def AimSet.discard (a : AimSet) : AimSet := { a with pending := a.active }

/-- The number of lines that are not UNUSED and name a set (R99). -/
def State.linesNaming (s : State) (k : Fin 16) : Nat :=
  ((List.finRange 96).filter fun n => (s.line n).any fun c => c.aim == k).length

/-! ### The commands past the common checks -/

/-- WRITE-AIM (R91, R92). -/
def writeAimAct (k : Fin 16) (v : Fin 12) (x : ValueAim) (s : State) : Answer :=
  if ((s.aim k).target.putValue v x).valid then
    .done (s.setAim k ((s.aim k).edit fun q => q.putValue v x)) .ok []
  else .refuse .range

/-- WRITE-AIM-RULES (R91, R93): the kind changes at once, and only while no line names the set. -/
def writeAimRulesAct (x : AimRules) (s : State) : Answer :=
  if ((s.aim x.set).target.putRules x.run x.slope x.settling).valid then
    if (s.aim x.set).kind ≠ x.kind ∧ 0 < s.linesNaming x.set then .refuse .state
    else
      .done (s.setAim x.set
        { (s.aim x.set).edit (fun q => q.putRules x.run x.slope x.settling) with kind := x.kind }) .ok []
  else .refuse .range

/-- SET-PRELOAD (R94). -/
def setPreloadAct (k : Fin 16) (mode : Bool) (s : State) : Answer :=
  .done (s.setAim k ((s.aim k).setPreload mode)) .ok []

/-- DISCARD-PENDING (R95). -/
def discardPendingAct (k : Fin 16) (s : State) : Answer := .done (s.setAim k (s.aim k).discard) .ok []

/-! ### The commands -/

/-- WRITE_AIM (R92). -/
def execWriteAim (p : Port) (s : State) : Host.Outcome State Fault Refusal :=
  .next (runCommand .writeAim p s parseWriteAim (fun a => some (.aim a.1)) fun a => writeAimAct a.1 a.2.1 a.2.2)

/-- WRITE_AIM_RULES (R93). -/
def execWriteAimRules (p : Port) (s : State) : Host.Outcome State Fault Refusal :=
  .next (runCommand .writeAimRules p s parseAimRules (fun a => some (.aim a.set)) writeAimRulesAct)

/-- SET_PRELOAD (R94). -/
def execSetPreload (p : Port) (s : State) : Host.Outcome State Fault Refusal :=
  .next (runCommand .setPreload p s parsePreload (fun a => some (.aim a.1)) fun a => setPreloadAct a.1 a.2)

/-- DISCARD_PENDING (R95). -/
def execDiscardPending (p : Port) (s : State) : Host.Outcome State Fault Refusal :=
  .next (runCommand .discardPending p s (parseIndex 16) (fun k => some (.aim k)) discardPendingAct)

end Sys2Proof.Machine
end

