-- ==== Sys2Proof/Machine/Flags.lean ====
section
/-! DEFINITION. The attention requests of the two management ports (08 R150 to R152): the stored flags, the ALERT
level that follows the alert list, the ATTN outputs and the choice of a cause. -/
namespace Sys2Proof.Machine

/-- The five attention causes, in the order of their codes (R150, section 12.3). -/
inductive Cause where
  | alert
  | close
  | holdLapse
  | reader
  | store
  deriving DecidableEq, Repr

/-- The causes in the order GET-ATTENTION looks at them within a group (R152). -/
def Cause.all : List Cause := [.alert, .close, .holdLapse, .reader, .store]

/-- A cause's code and bit (section 12.3). -/
def Cause.code : Cause → Nat
  | .alert => 0
  | .close => 1
  | .holdLapse => 2
  | .reader => 3
  | .store => 4

/-- Whether a set of ports holds a port. -/
def PortSet.has (q : PortSet) : Port → Bool
  | .mp0 => q.mp0
  | .mp1 => q.mp1

/-- A set of ports without a port. -/
def PortSet.remove (q : PortSet) : Port → PortSet
  | .mp0 => { q with mp0 := false }
  | .mp1 => { q with mp1 := false }

/-- A set of ports with a port. -/
def PortSet.add (q : PortSet) : Port → PortSet
  | .mp0 => { q with mp0 := true }
  | .mp1 => { q with mp1 := true }

/-- Whether a set of ports is empty. -/
def PortSet.empty (q : PortSet) : Bool := !q.mp0 && !q.mp1

/-- The ALERT request: some entry's pending set holds the port (R150). -/
def State.alertRequest (s : State) (p : Port) : Bool := s.alerts.any fun e => e.ports.has p

/-- The request of a cause at a port (R150). -/
def State.request (s : State) (p : Port) : Cause → Bool
  | .alert => s.alertRequest p
  | .close => (s.port p).closeFlag
  | .holdLapse => (s.port p).lapseFlag
  | .reader => (s.port p).readerFlag
  | .store => (s.port p).storeFlag

/-- A port with the flag of a cause set or cleared; ALERT has no flag (R150). -/
def PortUnit.setFlag (u : PortUnit) (c : Cause) (b : Bool) : PortUnit :=
  match c with
  | .alert => u
  | .close => { u with closeFlag := b }
  | .holdLapse => { u with lapseFlag := b }
  | .reader => { u with readerFlag := b }
  | .store => { u with storeFlag := b }

/-- A cause's flag set at one port (R150). -/
def State.raiseAt (s : State) (p : Port) (c : Cause) : State := s.setPort p ((s.port p).setFlag c true)

/-- A cause's flag set at both ports (R150). -/
def State.raise (s : State) (c : Cause) : State :=
  { s with mp0 := s.mp0.setFlag c true, mp1 := s.mp1.setFlag c true }

/-- Whether the mask of a cause is open at a port (R150). -/
def PortUnit.isOpen (u : PortUnit) (c : Cause) : Bool := u.masks.getLsbD c.code

/-- Whether a cause is in the HIGH group at a port (R150). -/
def PortUnit.isHigh (u : PortUnit) (c : Cause) : Bool := u.groups.getLsbD c.code

/-- ATTNn: some cause has its request true and its mask open (R151). -/
def State.attn (s : State) (p : Port) : Bool :=
  Cause.all.any fun c => s.request p c && (s.port p).isOpen c

/-- The cause GET-ATTENTION chooses (R152): the HIGH group before the LOW group, and within a group by order. -/
def State.chosenCause (s : State) (p : Port) : Option Cause :=
  let asking := Cause.all.filter fun c => s.request p c && (s.port p).isOpen c
  match asking.find? fun c => (s.port p).isHigh c with
  | some c => some c
  | none => asking.head?

/-- The request set as a byte: bit k for cause k (section 12.3, R152). -/
def State.requestSet (s : State) (p : Port) : Byte :=
  Cause.all.foldl (fun b c => if s.request p c then b ||| (1#8 <<< c.code) else b) 0#8

/-- A line's fault record updated (R32): code, origin, lab id, the current day, the count, and READER attention at both
ports. -/
def State.chargeFault (s : State) (rl : Fin 4) (code : FaultCode) (origin : Origin) (lab : Option Nat) : State :=
  let r := s.reader rl
  (s.setReader rl { r with fault :=
      ⟨some code, some origin, lab, some s.day.number, satSucc 255 r.fault.count⟩ }).raise .reader

end Sys2Proof.Machine
end

