-- ==== Sys2Proof/Machine/Alerts.lean ====
section
/-! DEFINITION. The alert list (08): offers, waiting alerts, departures and moving in, the subscriptions, and the alert
and attention commands. -/
namespace Sys2Proof.Machine

/-! ### The list -/

/-- An alert kind's code and set bit (section 12.3). -/
def AlertKind.code : AlertKind → Nat
  | .warn => 0
  | .action => 1
  | .warnPair => 2
  | .trend => 3
  | .recovered => 4
  | .lotAttributed => 5
  | .lotDrift => 6
  | .crossover => 7
  | .overdue => 8

/-- Whether a port is subscribed to a kind (R141). -/
def PortUnit.subscribed (u : PortUnit) (k : AlertKind) : Bool := u.subscription.getLsbD k.code

/-- The ports subscribed to a kind as the subscriptions stand: the pending set of an offer (R142). -/
def State.subscribers (s : State) (k : AlertKind) : PortSet := ⟨s.mp0.subscribed k, s.mp1.subscribed k⟩

/-- An offer (R142). -/
structure Offer where
  key : Key
  kind : AlertKind
  day : Nat
  amount : Option Int
  deriving DecidableEq, Repr

/-- The place of a value or of the line level among a line's thirteen waiting alerts (R143). -/
def waitIndex : Option (Fin 12) → Fin 13
  | some v => v.castSucc
  | none => 12

/-- The waiting kind held for a key (R143). -/
def State.waitingAt (s : State) (k : Key) : Option AlertKind :=
  match k.subject, k.value with
  | .line n, v => (s.line n).bind fun c => c.waiting.get (waitIndex v)
  | .lot l, some v => (s.lot l).bind fun c => c.waiting.get v
  | .lot _, none => none

/-- The waiting kind of a key written or cleared; an UNUSED line and an EMPTY slot have no place for one (R143). -/
def State.setWaiting (s : State) (k : Key) (w : Option AlertKind) : State :=
  match k.subject, k.value with
  | .line n, v =>
    match s.line n with
    | none => s
    | some c => s.setLine n (some { c with waiting := c.waiting.set (waitIndex v) w })
  | .lot l, some v =>
    match s.lot l with
    | none => s
    | some c => s.setLot l (some { c with waiting := c.waiting.set v w })
  | .lot _, none => s

/-- The lowest entry number not in use (R140). -/
def State.freeNumber (s : State) : Option (Fin 32) :=
  (List.finRange 32).find? fun k => !(s.alerts.any fun e => e.number == k)

/-- A new entry at the back of the list, its number and serial by R140. -/
def State.createEntry (s : State) (key : Key) (kind : AlertKind) (day : Nat) (amount : Option Int) (ports : PortSet) :
    State :=
  match s.freeNumber with
  | none => s
  | some k =>
    { s with
      serials := s.serials.set k (s.serials.get k + 1)
      alerts := s.alerts ++ [⟨k, s.serials.get k + 1, key, kind, day, amount, 1, ports⟩] }

/-- The keys in scan order: lines 0 to 95, values 0 to 11 and then the line level, then slots 0 to 15 (R144). -/
def scanKeys : List Key :=
  ((List.finRange 96).flatMap fun n =>
      ((List.finRange 12).map fun v => ⟨.line n, some v⟩) ++ [⟨.line n, none⟩]) ++
    (List.finRange 16).flatMap fun l => (List.finRange 12).map fun v => ⟨.lot l, some v⟩

/-- One moving in over the keys still to be scanned (R144). -/
def moveIn : List Key → State → State
  | [], s => s
  | k :: ks, s =>
    match s.waitingAt k with
    | none => moveIn ks s
    | some kind =>
      if (s.subscribers kind).empty then moveIn ks (s.setWaiting k none)
      else (s.setWaiting k none).createEntry k kind s.day.number none (s.subscribers kind)

/-- The entry at a number leaves the list, and its moving in follows (R144, R145). -/
def State.depart (s : State) (number : Fin 32) : State :=
  moveIn scanKeys { s with alerts := s.alerts.filter fun e => e.number != number }

/-- Several entries leave, each followed by its moving in (R145). -/
def State.departAll (s : State) (numbers : List (Fin 32)) : State := numbers.foldl State.depart s

/-- The entry with a key (R139). -/
def State.entryAt (s : State) (k : Key) : Option AlertEntry := s.alerts.find? fun e => e.key == k

/-- An offer merges into an entry, which moves to the back (R142). -/
def State.merge (s : State) (e : AlertEntry) (o : Offer) : State :=
  { s with
    serials := s.serials.set e.number (s.serials.get e.number + 1)
    alerts := (s.alerts.filter fun x => x.number != e.number) ++
      [{ e with
          serial := s.serials.get e.number + 1, kind := o.kind, day := o.day, amount := o.amount,
          repeats := satSucc 255 e.repeats, ports := s.subscribers o.kind }] }

/-- The alert list takes an offer: the first of the four cases of R142 that applies. -/
def State.offer (s : State) (o : Offer) : State :=
  if (s.subscribers o.kind).empty then
    match s.entryAt o.key with
    | some e => (s.setWaiting o.key none).depart e.number
    | none => s.setWaiting o.key none
  else
    match s.entryAt o.key with
    | some e => s.merge e o
    | none =>
      if s.alerts.length < Config.listDepth then
        s.createEntry o.key o.kind o.day o.amount (s.subscribers o.kind)
      else s.setWaiting o.key (some o.kind)

/-- Several offers, in the order the offering step makes them (R142). -/
def State.offerAll (s : State) (os : List Offer) : State := os.foldl State.offer s

/-- The number of waiting kinds in the part, 0 to 1440 (R143). -/
def State.waitingCount (s : State) : Nat := (scanKeys.filter fun k => (s.waitingAt k).isSome).length

/-! ### The alert commands -/

/-- The port set of an entry as a byte (section 12.3). -/
def PortSet.code (q : PortSet) : Byte := (if q.mp0 then 1#8 else 0#8) ||| (if q.mp1 then 2#8 else 0#8)

/-- The subject kind and index of an alert record (R183). -/
def Subject.bytes : Subject → List Byte
  | .line n => [1#8, byte n.val]
  | .lot k => [3#8, byte k.val]

/-- The 13-byte alert record (R183). -/
def AlertEntry.bytes (e : AlertEntry) : List Byte :=
  [byte e.number.val, e.serial] ++ e.key.subject.bytes ++
  [match e.key.value with
    | some v => byte v.val
    | none => 0xFF#8] ++
  [byte e.kind.code] ++ bytes16 e.day ++ [flagByte e.amount.isSome] ++ signed16 (e.amount.getD 0) ++
  [byte e.repeats, e.ports.code]

/-- The three numbers of a NEXT-ALERT response (R146). -/
def State.alertCounts (s : State) (p : Port) : List Byte :=
  [byte (s.alerts.filter fun e => e.ports.has p).length, byte s.alerts.length] ++ bytes16 s.waitingCount

/-- NEXT-ALERT: the oldest entry whose pending set holds the port (R146). -/
def nextAlertAct (p : Port) (s : State) : Answer :=
  match s.alerts.find? fun e => e.ports.has p with
  | some e => .done s .ok (s.alertCounts p ++ e.bytes)
  | none => .done s .nothing (s.alertCounts p)

/-- An entry's pending set without a port, the list's order kept (R147). -/
def State.removeClaim (s : State) (number : Fin 32) (p : Port) : State :=
  { s with alerts := s.alerts.map fun e => if e.number = number then { e with ports := e.ports.remove p } else e }

/-- ACK-ALERT (R147). The data byte says whether the entry left the list. -/
def ackAlertAct (p : Port) (number : Fin 32) (serial : BitVec 8) (s : State) : Answer :=
  match s.alerts.find? fun e => e.number == number with
  | none => .refuse .notFound
  | some e =>
    if e.serial ≠ serial then .refuse .stale
    else if e.ports.has p then
      if (e.ports.remove p).empty then .done (s.depart number) .ok [1#8]
      else .done (s.removeClaim number p) .ok [0#8]
    else .done s .ok [0#8]

/-- The port removed from the pending sets of the entries of kinds its subscription no longer holds (R141). -/
def dropClaims (p : Port) (removed : AlertKind → Bool) (es : List AlertEntry) : List AlertEntry :=
  es.map fun e => if removed e.kind then { e with ports := e.ports.remove p } else e

/-- SET-SUBSCRIPTION (R141): the new set is in force, claims of removed kinds are dropped, and the entries left with an
empty pending set leave, oldest first. -/
def setSubscriptionAct (p : Port) (kinds : BitVec 9) (s : State) : Answer :=
  let removed : AlertKind → Bool := fun k => (s.port p).subscribed k && !(kinds.getLsbD k.code)
  let s1 := s.setPort p { s.port p with subscription := kinds }
  let s2 := { s1 with alerts := dropClaims p removed s1.alerts }
  .done (s2.departAll ((s2.alerts.filter fun e => e.ports.empty).map AlertEntry.number)) .ok []

/-- GET-ATTENTION (R152): the chosen cause's flag is cleared, and the request set is as it stands after the clear. -/
def getAttentionAct (p : Port) (s : State) : Answer :=
  match s.chosenCause p with
  | none => .done s .nothing [0xFF#8, s.requestSet p]
  | some c =>
    let s' := s.setPort p ((s.port p).setFlag c false)
    .done s' .ok [byte c.code, s'.requestSet p]

/-- SET-ATTENTION (R153): all ten settings of the port are replaced. -/
def setAttentionAct (p : Port) (masks groups : BitVec 5) (s : State) : Answer :=
  .done (s.setPort p { s.port p with masks := masks, groups := groups }) .ok []

/-- NEXT-ALERT (R146). -/
def execNextAlert (p : Port) (s : State) : Host.Outcome State Fault Refusal :=
  .next (runCommand .nextAlert p s parseNone noItem fun _ => nextAlertAct p)

/-- ACK-ALERT (R147). -/
def execAckAlert (p : Port) (s : State) : Host.Outcome State Fault Refusal :=
  .next (runCommand .ackAlert p s parseAck noItem fun a => ackAlertAct p a.1 a.2)

/-- SET-SUBSCRIPTION (R141). -/
def execSetSubscription (p : Port) (s : State) : Host.Outcome State Fault Refusal :=
  .next (runCommand .setSubscription p s parseKinds noItem fun a => setSubscriptionAct p a)

/-- GET-ATTENTION (R152). -/
def execGetAttention (p : Port) (s : State) : Host.Outcome State Fault Refusal :=
  .next (runCommand .getAttention p s parseNone noItem fun _ => getAttentionAct p)

/-- SET-ATTENTION (R153). -/
def execSetAttention (p : Port) (s : State) : Host.Outcome State Fault Refusal :=
  .next (runCommand .setAttention p s parseAttention noItem fun a => setAttentionAct p a.1 a.2)

end Sys2Proof.Machine
end

