-- ==== Sys2Proof/Machine/Judgement.lean ====
section
/-! DEFINITION. The arithmetic of judgement: counts to densities (R9), densities to control values (R11), deviations
(R12), verdicts and their directions (R13, R14), the trend filters (R83 to R85). -/
namespace Sys2Proof.Machine

/-! ### Density conversion (R9) -/

/-- Whether the rounded value of `o / n` is at least `d`, for `d ≥ 1`: 10^((d − 0.5)/1000) ≤ o/n, with both sides
raised to the power 2000 so that the comparison is one of whole numbers. -/
def roundsTo (o n d : Nat) : Bool := decide (10 ^ (2 * d - 1) * n ^ 2000 ≤ o ^ 2000)

/-- The largest number in `lo … hi − 1` that the quotient rounds up to, found by halving. -/
def bisect (o n : Nat) : Nat → Nat → Nat → Nat
  | 0, lo, _ => lo
  | fuel + 1, lo, hi =>
    if hi ≤ lo + 1 then lo
    else if roundsTo o n ((lo + hi) / 2) then bisect o n fuel ((lo + hi) / 2) hi
    else bisect o n fuel lo ((lo + hi) / 2)

/-- 1000 × log10(o / n) rounded to the nearest whole number, halves up, for 0 < n < o ≤ 65535 (R9). The greatest value
is 4816, so 0 to 8191 holds it. -/
def rounded (o n : Nat) : Nat := bisect o n 13 0 8192

/-- A reading's density and patch mark from its count and the open count of its channel, in the order of R9's table. -/
def convert (o n : Nat) : Reading :=
  if o ≤ n then ⟨0, .bright⟩
  else if n = 0 then ⟨4000, .opaqued⟩
  else if 4000 < rounded o n then ⟨4000, .opaqued⟩
  else ⟨rounded o n, .unmarked⟩

/-- The channel of a reading: reading 4c + p belongs to channel c (R1). -/
def channelOf (i : Fin 12) : Fin 3 := ⟨i.val / 4, by have := i.isLt; omega⟩

/-- The twelve readings of a strip from its counts, each against the open count of its channel (R4, R9). -/
def convertAll (opens : Table Nat 3) (counts : Table Nat 12) : Table Reading 12 :=
  Table.ofFn fun i => convert (opens.get (channelOf i)) (counts.get i)

/-- A point is DOUBTFUL when a BASE, LOW or HIGH reading carries a mark (R10). -/
def doubtfulOf (rs : Table Reading 12) : Bool :=
  (List.finRange 12).any fun i => decide (i.val % 4 ≠ 3) && decide ((rs.get i).mark ≠ .unmarked)

/-! ### Control values, deviations, verdicts -/

/-- The density of a reading as a whole number of mD. -/
def densityAt (rs : Table Reading 12) (i : Nat) : Int :=
  if h : i < 12 then ((rs.get ⟨i, h⟩).density : Int) else 0

/-- The twelve control values (R11): BASE and DMAX are densities, SPEED is LOW less BASE, CONTRAST is HIGH less LOW. -/
def controlValues (rs : Table Reading 12) : Table Int 12 :=
  Table.ofFn fun v =>
    if v.val % 4 = 1 ∨ v.val % 4 = 2 then densityAt rs v.val - densityAt rs (v.val - 1)
    else densityAt rs v.val

/-- A number limited to a range. -/
def clamp (lo hi i : Int) : Int := if i < lo then lo else if hi < i then hi else i

/-- The twelve deviations: measured less reference, active correction and aim offset, limited to −4000 to 4000 (R12). -/
def deviationsOf (values refs corrections : Table Int 12) (aims : Table ValueAim 12) : Table Int 12 :=
  Table.ofFn fun v =>
    clamp (-4000) 4000 (values.get v - refs.get v - corrections.get v - (aims.get v).offset)

/-- The band of a deviation or residual under a value's limits (R13, R15). -/
def band (a : ValueAim) (d : Int) : Verdict :=
  if a.ua ≤ d then .actionHigh
  else if a.uw ≤ d then .warnHigh
  else if d ≤ a.la then .actionLow
  else if d ≤ a.lw then .warnLow
  else .inside

/-- The verdicts of twelve deviations or residuals. -/
def verdictsOf (aims : Table ValueAim 12) (ds : Table Int 12) : Table Verdict 12 :=
  Table.ofFn fun v => band (aims.get v) (ds.get v)

/-- The direction of a verdict (R14). -/
def Verdict.side : Verdict → Option Side
  | .inside => none
  | .warnHigh => some .high
  | .actionHigh => some .high
  | .warnLow => some .low
  | .actionLow => some .low

/-- The alert kind a provisional verdict of evaluation reports, none for IN (R58). -/
def Verdict.report : Verdict → Option AlertKind
  | .inside => none
  | .warnHigh => some .warn
  | .warnLow => some .warn
  | .actionHigh => some .action
  | .actionLow => some .action

/-- A verdict of WARN on either side (R131). -/
def Verdict.isWarn : Verdict → Bool
  | .inside => false
  | .warnHigh => true
  | .warnLow => true
  | .actionHigh => false
  | .actionLow => false

/-! ### Trend filters -/

/-- The run part after a counted residual (R83). -/
def runAfter (f : Filter) (r : Int) : RunDir × Nat :=
  if 0 < r then (.positive, if f.run = .positive then satSucc 9 f.runCount else 1)
  else if r < 0 then (.negative, if f.run = .negative then satSucc 9 f.runCount else 1)
  else (.flat, 0)

/-- The slope part after a counted residual (R84). -/
def slopeAfter (f : Filter) (r : Int) : SlopeDir × Nat :=
  match f.last with
  | none => (.flat, 1)
  | some l =>
    if l < r then (.up, if f.slope = .up then satSucc 8 f.slopeCount else 2)
    else if r < l then (.down, if f.slope = .down then satSucc 8 f.slopeCount else 2)
    else (.flat, 1)

/-- The filter after a counted residual (R83, R84). -/
def Filter.feed (f : Filter) (r : Int) : Filter :=
  { run := (runAfter f r).1, runCount := (runAfter f r).2, slope := (slopeAfter f r).1,
    slopeCount := (slopeAfter f r).2, last := some r }

/-- The trend indication: the update raised the run count from below R to R, or the slope count from below S to S
(R85). -/
def indicates (part : AimPart) (before after : Filter) : Bool :=
  (decide (before.runCount < part.run) && decide (after.runCount = part.run)) ||
  (decide (before.slopeCount < part.slope) && decide (after.slopeCount = part.slope))

/-! ### The chart ring -/

/-- The ring's point of a day. -/
def ringAt (ring : List Point) (day : Nat) : Option Point := ring.find? fun q => q.day == day

/-- The ring with the point of a day replaced. -/
def ringReplace (ring : List Point) (pt : Point) : List Point :=
  ring.map fun q => if q.day = pt.day then pt else q

end Sys2Proof.Machine
end

