-- ==== Sys2Proof/Machine/Day.lean ====
section
/-! DEFINITION. The day unit (07): close requests, the day timer, the steps of the close pass, and the commands CLOSE-DAY
and WRITE-DESK. -/
namespace Sys2Proof.Machine

/-! ### Close requests -/

/-- A reader line whose calibration has expired (R7). -/
def Reader.expireCal (r : Reader) : Reader := { r with cal := .uncalibrated }

/-- The first stage of the pass, or DRAINING while records of the closing day wait (R120, R124). -/
def stateAfterRequest (drain : Nat) : DayState := if drain = 0 then .closing (.consensus 0) else .draining

/-- The day unit after a taken close request (R124). -/
def DayUnit.request (d : DayUnit) (cause : CloseCause) (occupancy : Nat) : DayUnit :=
  { d with
    number := d.number + 1, timer := 0, firstClose := false, last := some ⟨d.number, cause⟩
    closeOut := d.closeOut || decide (d.desk.mode = .leader)
    state := stateAfterRequest occupancy, tally := Tally.zero }

/-- Taking a close request (R124): the day advances, the calibrations expire and the drain count is set. -/
def State.takeRequest (s : State) (cause : CloseCause) : State :=
  { s with
    readers := s.readers.map Reader.expireCal
    drain := s.queue.length
    day := s.day.request cause s.queue.length }

/-- A close request can be taken: the day is OPEN and below its limit (R122, R123, R126). -/
def DayUnit.accepts (d : DayUnit) : Bool := decide (d.state = .dayOpen) && decide (d.number < Config.lastDay)

/-- CLOSE-DAY comes before its window opens (step 4 of R121). -/
def DayUnit.early (d : DayUnit) : Bool :=
  !d.firstClose && decide (d.timer * 100 < d.desk.length * (100 - d.desk.window))

/-- CLOSE-DAY (R121): the four checks in order, then the request. -/
def closeDayAct (p : Port) (s : State) : Answer :=
  if s.day.desk.mode = .follower then .refuse .state
  else if s.day.state ≠ .dayOpen then .refuse .busy
  else if Config.lastDay ≤ s.day.number then .refuse .range
  else if s.day.early then .refuse .early
  else .done (s.takeRequest (.port p)) .ok (bytes16 s.day.number)

/-- CLOSE_IN_EDGE (R122): acted on in FOLLOWER mode alone. -/
def execCloseInEdge (s : State) : Host.Outcome State Fault Refusal :=
  .next (
    if s.day.desk.mode = .follower then
      if s.day.accepts then s.takeRequest .edge else s.setDay { s.day with missedEdge := true }
    else s)

/-- CLOSE_OUT_PULSE_END (R124): CLOSE-OUT returns low. -/
def execCloseOutPulseEnd (s : State) : Host.Outcome State Fault Refusal :=
  .next (s.setDay { s.day with closeOut := false })

/-- DAY_TIMER_TICK (R118, R126): one more whole minute, not beyond L, not while LOADING, not at day 65535. -/
def execDayTimerTick (s : State) : Host.Outcome State Fault Refusal :=
  .next (
    if !s.store.loading && decide (s.day.number < Config.lastDay) && decide (s.day.timer < s.day.desk.length) then
      s.setDay { s.day with timer := s.day.timer + 1 }
    else s)

/-- DAY_TIMER_EXPIRY (R123). -/
def execDayTimerExpiry (s : State) : Host.Outcome State Fault Refusal :=
  .next (if decide (s.day.desk.length ≤ s.day.timer) && s.day.accepts then s.takeRequest .expiry else s)

/-! ### The order of the pass (R127) -/

/-- The next item of a stage. -/
def nextItem {n : Nat} (i : Fin n) : Option (Fin n) := if h : i.val + 1 < n then some ⟨i.val + 1, h⟩ else none

/-- The day state after a step of a stage that another stage of the pass follows, the transfer stage excepted. -/
def stateAfter (pos : ClosePos) : DayState :=
  match pos with
  | .consensus k =>
    match nextItem k with
    | some k' => .closing (.consensus k')
    | none => .closing (.finalisation 0)
  | .finalisation n =>
    match nextItem n with
    | some n' => .closing (.finalisation n')
    | none => .closing (.overdue 0)
  | .overdue n =>
    match nextItem n with
    | some n' => .closing (.overdue n')
    | none => .closing (.countdown 0)
  | .countdown k =>
    match nextItem k with
    | some k' => .closing (.countdown k')
    | none => .closing (.transferAim 0)
  | .transferAim k =>
    match nextItem k with
    | some k' => .closing (.transferAim k')
    | none => .closing (.transferLot 0)
  | .transferLot k =>
    match nextItem k with
    | some k' => .closing (.transferLot k')
    | none => .closing .summary
  | .summary => .dayOpen

/-- A step is complete: the pass goes on to the next item or stage. -/
def State.advance (s : State) (pos : ClosePos) : State := s.setDay { s.day with state := stateAfter pos }

/-- The transfer stage begins, and waits while the store is SAVING (R133). -/
def State.beginTransfer (s : State) : State :=
  if s.store.isSaving then s.setDay { s.day with state := .transferWait } else s

/-! ### Consensus (R128, R129) -/

/-- A point belongs to the lot in a slot (R102); the point's kind is its line's. -/
def belongs (c : LineCtx) (pt : Point) (k : Fin 16) (l : Lot) : Bool :=
  decide (pt.slot = k) && decide (pt.code = l.code) && decide (c.kind = l.kind)

/-- A line's point participates in the consensus of a slot (R128). -/
def participates (c : LineCtx) (pt : Point) (k : Fin 16) (l : Lot) : Bool :=
  decide (pt.state = .provisional) && belongs c pt k l && !pt.settling && !pt.doubtful

/-- The participating points of a slot, in line order (R128). -/
def State.participants (s : State) (k : Fin 16) (l : Lot) : List Point :=
  (List.finRange 96).filterMap fun n =>
    match s.line n with
    | none => none
    | some c =>
      match ringAt c.ring s.day.closingDay with
      | none => none
      | some pt => if participates c pt k l then some pt else none

/-- The participants whose provisional verdict for a value has a direction (R128). -/
def onSide (pts : List Point) (v : Fin 12) (d : Side) : List Point :=
  pts.filter fun pt => decide ((pt.verdicts.get v).side = some d)

/-- The mean deviation of some points, truncated toward zero (R129). -/
def meanDeviation (pts : List Point) (v : Fin 12) : Int :=
  Int.tdiv ((pts.map fun pt => pt.deviations.get v).sum) pts.length

/-- The shift declared for a value (R129). -/
def declared (desk : Desk) (pts : List Point) (v : Fin 12) : Option Shift :=
  let up := onSide pts v .high
  let down := onSide pts v .low
  let bar := desk.share * pts.length
  if pts.length < desk.quorum then none
  else if bar ≤ up.length * 100 ∧ down.length * 100 < bar then some ⟨.high, meanDeviation up v⟩
  else if bar ≤ down.length * 100 ∧ up.length * 100 < bar then some ⟨.low, meanDeviation down v⟩
  else none

/-- The agreeing count of a value (R111). -/
def agreeing (desk : Desk) (pts : List Point) (v : Fin 12) : Nat :=
  match declared desk pts v with
  | some ⟨.high, _⟩ => (onSide pts v .high).length
  | some ⟨.low, _⟩ => (onSide pts v .low).length
  | none => max (onSide pts v .high).length (onSide pts v .low).length

/-- The last shift record a consensus writes (R111). -/
def shiftRecord (desk : Desk) (day : Nat) (pts : List Point) : ShiftRecord :=
  { day := day
    entries := Table.ofFn fun v => ⟨declared desk pts v, pts.length, agreeing desk pts v⟩ }

/-- The proposal after a consensus: each declared shift's entry is the active correction plus the magnitude, limited to
−500 to 500 (R113). -/
def proposalAfter (desk : Desk) (pts : List Point) (l : Lot) : Option (Table (Option Int) 12) :=
  if (List.finRange 12).any fun v => (declared desk pts v).isSome then
    some (Table.ofFn fun v =>
      match declared desk pts v with
      | some x => some (clamp (-500) 500 (l.active.get v + x.magnitude))
      | none => (l.proposal.getD (Table.fill 12 none)).get v)
  else l.proposal

/-- A slot after its consensus step (R129). -/
def Lot.afterConsensus (l : Lot) (desk : Desk) (day : Nat) (pts : List Point) : Lot :=
  { l with
    shift := if pts.isEmpty then l.shift else some (shiftRecord desk day pts)
    proposal := proposalAfter desk pts l }

/-- The LOT-DRIFT offer of a value (R113). -/
def driftOffer (k : Fin 16) (desk : Desk) (day : Nat) (pts : List Point) (v : Fin 12) : Option Offer :=
  (declared desk pts v).map fun x => ⟨⟨.lot k, some v⟩, .lotDrift, day, some x.magnitude⟩

/-- The number of shifts a slot's consensus declares (R129). -/
def shiftCount (desk : Desk) (pts : List Point) : Nat :=
  ((List.finRange 12).filter fun v => (declared desk pts v).isSome).length

/-- The consensus step of a slot (R128, R129). -/
def State.consensus (s : State) (k : Fin 16) : State :=
  match s.lot k with
  | none => s
  | some l =>
    let pts := s.participants k l
    let desk := s.day.desk
    let s1 := (s.setLot k (some (l.afterConsensus desk s.day.closingDay pts))).offerAll
      ((List.finRange 12).filterMap (driftOffer k desk s.day.closingDay pts))
    s1.setDay { s1.day with tally := { s1.day.tally with shifts := s1.day.tally.shifts + shiftCount desk pts } }

/-! ### Finalisation (R130, R131) -/

/-- The shift magnitude a value of a point takes: the slot still holds the point's lot, its record is of the closing day
and gives the value the direction of the point's provisional verdict (R130). -/
def appliedShift (lot : Option Lot) (c : LineCtx) (pt : Point) (day : Nat) (v : Fin 12) : Option Int :=
  match lot with
  | none => none
  | some l =>
    match l.shift with
    | none => none
    | some rec =>
      match (rec.entries.get v).shift with
      | none => none
      | some x =>
        if belongs c pt pt.slot l && decide (rec.day = day) && decide ((pt.verdicts.get v).side = some x.side) then
          some x.magnitude
        else none

/-- The residuals of a point (R130). -/
def residualsOf (pt : Point) (shift : Fin 12 → Option Int) : Table Int 12 :=
  Table.ofFn fun v => pt.deviations.get v - (shift v).getD 0

/-- A point is counted: neither settling nor DOUBTFUL (section 4.5, R131). -/
def Point.counted (pt : Point) : Bool := !pt.settling && !pt.doubtful

/-- The finalised point (R130). -/
def finalPoint (pt : Point) (residuals : Table Int 12) (finals : Table Verdict 12) (shift : Fin 12 → Option Int) :
    Point :=
  { pt with state := .final residuals finals (Table.ofFn fun v => (shift v).isSome) }

/-- A pair of warnings: the final verdict is WARN and the warn memory holds a verdict of the same direction (R131). -/
def warnPairs (memory : Option Verdict) (final : Verdict) : Bool :=
  final.isWarn && match memory with
    | none => false
    | some w => decide (w.side = final.side)

/-- The one alert of a value at finalisation (R131): WARN-PAIR, then TREND, then LOT-ATTRIBUTED. -/
def finalOffer (n : Fin 96) (day : Nat) (c : LineCtx) (pt : Point) (part : AimPart) (residuals : Table Int 12)
    (finals : Table Verdict 12) (shift : Fin 12 → Option Int) (v : Fin 12) : Option Offer :=
  if pt.counted && warnPairs (c.warn.get v) (finals.get v) then
    some ⟨⟨.line n, some v⟩, .warnPair, day, some (residuals.get v)⟩
  else if pt.counted && indicates part (c.filters.get v) ((c.filters.get v).feed (residuals.get v)) then
    some ⟨⟨.line n, some v⟩, .trend, day, some (residuals.get v)⟩
  else
    match shift v with
    | none => none
    | some m =>
      if finals.get v = .inside then some ⟨⟨.line n, some v⟩, .lotAttributed, day, some m⟩ else none

/-- A line after the finalisation of its point (R130, R131, R69). -/
def LineCtx.finalised (c : LineCtx) (pt : Point) (residuals : Table Int 12) (finals : Table Verdict 12)
    (shift : Fin 12 → Option Int) : LineCtx :=
  { c with
    state := if c.state = .enrolled then .active else c.state
    ring := ringReplace c.ring (finalPoint pt residuals finals shift)
    filters :=
      if pt.counted then Table.ofFn fun v => (c.filters.get v).feed (residuals.get v) else c.filters
    warn := if pt.counted then Table.ofFn fun v => some (finals.get v) else c.warn }

/-- The finalisation of a line's PROVISIONAL point of the closing day (R130, R131). -/
def State.finalisePoint (s : State) (n : Fin 96) (c : LineCtx) (pt : Point) : State :=
  let day := s.day.closingDay
  let part := (s.aim c.aim).active
  let shift := appliedShift (s.lot pt.slot) c pt day
  let residuals := residualsOf pt shift
  let finals := verdictsOf part.aims residuals
  let s1 := (s.setLine n (some (c.finalised pt residuals finals shift))).offerAll
    ((List.finRange 12).filterMap (finalOffer n day c pt part residuals finals shift))
  s1.setDay { s1.day with tally := { s1.day.tally with points := s1.day.tally.points + 1 } }

/-- The finalisation step of a line (R130): a line with no PROVISIONAL point of the closing day is passed over. -/
def State.finalise (s : State) (n : Fin 96) : State :=
  match s.line n with
  | none => s
  | some c =>
    match ringAt c.ring s.day.closingDay with
    | none => s
    | some pt => if pt.state = .provisional then s.finalisePoint n c pt else s

/-! ### Overdue scan and lot countdown (R132) -/

/-- The overdue scan counts a line: ACTIVE or OVERDUE with no point of the closing day (R70). -/
def LineCtx.misses (c : LineCtx) (day : Nat) : Bool :=
  (decide (c.state = .active) || decide (c.state = .overdue)) && (ringAt c.ring day).isNone

/-- The overdue step of a line (R70, R132). -/
def State.overdueScan (s : State) (n : Fin 96) : State :=
  match s.line n with
  | none => s
  | some c =>
    if c.misses s.day.closingDay then
      let missed := satSucc 255 c.missed
      if c.state = .active ∧ s.day.desk.overdueLimit ≤ missed then
        let s1 := (s.setLine n (some { c with missed := missed, state := .overdue })).offer
          ⟨⟨.line n, none⟩, .overdue, s.day.closingDay, none⟩
        s1.setDay { s1.day with tally := { s1.day.tally with overdue := s1.day.tally.overdue + 1 } }
      else s.setLine n (some { c with missed := missed })
    else s

/-- A slot after its countdown step (R106). -/
def Lot.countedDown (l : Lot) : Lot :=
  match l.state with
  | .retiring k => { l with state := if k ≤ 1 then .retired else .retiring (k - 1) }
  | .defined => l
  | .current => l
  | .retired => l

/-- The countdown step of a slot (R106, R132). -/
def State.countDown (s : State) (k : Fin 16) : State :=
  match s.lot k with
  | none => s
  | some l => s.setLot k (some l.countedDown)

/-! ### Transfer and summary (R134, R135) -/

/-- One item counted as transferred or deferred (R134). -/
def State.countTransfer (s : State) (deferred : Bool) : State :=
  s.setDay { s.day with tally :=
    { s.day.tally with
      done := if deferred then s.day.tally.done else s.day.tally.done + 1
      deferred := if deferred then s.day.tally.deferred + 1 else s.day.tally.deferred } }

/-- The transfer step of an aim set (R134). -/
def State.transferSet (s : State) (k : Fin 16) : State :=
  let a := s.aim k
  if a.active = a.pending then s
  else if (s.holder (.aim k)).isSome then s.countTransfer true
  else (s.setAim k { a with active := a.pending }).countTransfer false

/-- The transfer step of a slot (R109, R134). -/
def State.transferSlot (s : State) (k : Fin 16) : State :=
  match s.lot k with
  | none => s
  | some l =>
    if l.active = l.pending then s
    else if (s.holder (.lot k)).isSome then s.countTransfer true
    else (s.setLot k (some { l with active := l.pending })).countTransfer false

/-- The close summary (R135); before any request, which no pass meets, day 0 and EXPIRY stand for the absent close
(log 28). -/
def DayUnit.summaryOf (d : DayUnit) : Summary := ⟨d.last.getD ⟨0, .expiry⟩, d.tally⟩

/-- The summary is written, the day state becomes OPEN and CLOSE is requested at both ports (R135). -/
def State.summarise (s : State) : State :=
  (s.setDay { s.day with summary := some s.day.summaryOf, state := .dayOpen }).raise .close

/-! ### The step events -/

/-- CONSENSUS_STEP (R128, R129) of the slot that is next. -/
def execConsensusStep (s : State) : Host.Outcome State Fault Refusal :=
  .next (
    match s.day.state with
    | .closing (.consensus k) => (s.consensus k).advance (.consensus k)
    | _ => s)

/-- FINALISATION_STEP (R130, R131) of the line that is next. -/
def execFinalisationStep (s : State) : Host.Outcome State Fault Refusal :=
  .next (
    match s.day.state with
    | .closing (.finalisation n) => (s.finalise n).advance (.finalisation n)
    | _ => s)

/-- OVERDUE_STEP (R70, R132) of the line that is next. -/
def execOverdueStep (s : State) : Host.Outcome State Fault Refusal :=
  .next (
    match s.day.state with
    | .closing (.overdue n) => (s.overdueScan n).advance (.overdue n)
    | _ => s)

/-- COUNTDOWN_STEP (R106, R132) of the slot that is next; after the last one the transfer stage begins (R133). -/
def execCountdownStep (s : State) : Host.Outcome State Fault Refusal :=
  .next (
    match s.day.state with
    | .closing (.countdown k) =>
      match nextItem k with
      | some _ => (s.countDown k).advance (.countdown k)
      | none => ((s.countDown k).advance (.countdown k)).beginTransfer
    | _ => s)

/-- TRANSFER_STEP (R134) of the aim set or slot that is next. -/
def execTransferStep (s : State) : Host.Outcome State Fault Refusal :=
  .next (
    match s.day.state with
    | .closing (.transferAim k) => (s.transferSet k).advance (.transferAim k)
    | .closing (.transferLot k) => (s.transferSlot k).advance (.transferLot k)
    | _ => s)

/-- SUMMARY (R135). -/
def execSummary (s : State) : Host.Outcome State Fault Refusal :=
  .next (
    match s.day.state with
    | .closing .summary => s.summarise
    | _ => s)

/-! ### The day commands -/

/-- WRITE-DESK (R119): all eight settings are replaced. -/
def writeDeskAct (d : Desk) (s : State) : Answer := .done (s.setDay { s.day with desk := d }) .ok []

/-- CLOSE-DAY (R121). -/
def execCloseDay (p : Port) (s : State) : Host.Outcome State Fault Refusal :=
  .next (runCommand .closeDay p s parseNone noItem fun _ => closeDayAct p)

/-- WRITE-DESK (R119). -/
def execWriteDesk (p : Port) (s : State) : Host.Outcome State Fault Refusal :=
  .next (runCommand .writeDesk p s parseDesk (fun _ => some .desk) writeDeskAct)

end Sys2Proof.Machine
end

