-- ==== Sys2Proof/Machine/Frames.lean ====
section
/-! DEFINITION. Reader characters and frames (02 R17, R25 to R27; 12 R181): the character format, the tags, the codes
of replies and faults, and the checks on a complete frame, which read the state and change nothing. -/
namespace Sys2Proof.Machine

/-! ### Characters (R17) -/

/-- The number of ones among eight data bits is odd. -/
def oddOnes (b : Byte) : Bool :=
  [0, 1, 2, 3, 4, 5, 6, 7].foldl (fun x i => x != b.getLsbD i) false

/-- The parity of a received character is odd: the ones among its data bits and its parity bit (R17). -/
def oddParity (b : Byte) (parity : Bool) : Bool := oddOnes b != parity

/-- The eleven bit-times of a sent character, true at mark: start bit, data bits least significant first, the parity bit
that makes the ones even, stop bit (R17). -/
def lineBits (b : Byte) : List Bool :=
  [false] ++ ([0, 1, 2, 3, 4, 5, 6, 7].map fun i => b.getLsbD i) ++ [oddOnes b, true]

/-- A character that carries no tag. -/
def Tags.none : Tags := ⟨false, false, false, false⟩

/-- Whether a character carries PARITY, FRAMING or OVERRUN-AFTER (R23). -/
def Tags.faulty (t : Tags) : Bool := t.parity || t.framing || t.overrunAfter

/-- Whether a consumed character begins a frame: the start byte with no tag (R22). -/
def FifoChar.starts (c : FifoChar) : Bool := decide (c.data = Config.startByte) && decide (c.tags = Tags.none)

/-! ### Codes (R181) -/

/-- The NAK reply codes (R181). -/
def Nak.code : Nak → Byte
  | .crc => 0xC1#8
  | .length => 0xC2#8
  | .kind => 0xC3#8
  | .lineError => 0xC4#8
  | .timeout => 0xC5#8
  | .full => 0xC6#8
  | .notReady => 0xC7#8
  | .notEnrolled => 0xC8#8
  | .suspended => 0xC9#8
  | .lotUnknown => 0xCA#8
  | .wrongProcess => 0xCB#8
  | .lotRetired => 0xCC#8
  | .uncalibrated => 0xCD#8
  | .gateMismatch => 0xCE#8
  | .calWeak => 0xCF#8

/-- The reply characters (R181). -/
def Reply.code : Reply → Byte
  | .accepted => 0x80#8
  | .wait => 0x81#8
  | .nak c => c.code

/-- The fault codes of fault records (R181). -/
def FaultCode.code : FaultCode → Byte
  | .nak c => c.code
  | .lineGone => 0xD1#8
  | .lotGone => 0xD2#8

/-- The byte of a character in the transmitter. -/
def TxChar.data : TxChar → Byte
  | .reply r => r.code
  | .test b => b

/-- The bits of the character in transmission, none while the transmitter is empty (R17, R31, R39). -/
def Reader.sentBits (r : Reader) : Option (List Bool) := r.sending.map fun x => lineBits x.char.data

/-- What the transmit wire TXD carries: the character in transmission, and none while it stands at mark, which it does
with the transmitter empty (R17) and in LOOPBACK (R38). -/
def Reader.txBits (r : Reader) : Option (List Bool) := if r.enable && r.loopback then none else r.sentBits

/-- What the internal path from the transmitter to the receiver carries: the character in transmission in LOOPBACK, and
none otherwise (R38). -/
def Reader.loopBits (r : Reader) : Option (List Bool) := if r.enable && r.loopback then r.sentBits else none

/-- The kind codes of frames (R181). -/
def stripKind : Byte := 0x21#8
/-- The kind code of a CAL frame (R181). -/
def calKind : Byte := 0x22#8
/-- The kind code of a TEST frame (R181). -/
def testKind : Byte := 0x2E#8

/-- The bytes of the test frame that its check code covers (R181). -/
def testCovered : List Byte := [7#8, testKind, 0x55#8, 0xAA#8, 0x00#8, 0xFF#8, 0x0F#8, 0xF0#8]

/-- The test frame of eleven characters (R181). -/
def testFrame : List Byte := Config.startByte :: testCovered ++ checkBytes testCovered

/-! ### Frames (R25, R27) -/

/-- The bytes gathered after the start byte make a complete frame: the length byte N, N further bytes and two check
bytes (R23). -/
def frameComplete : List Byte → Bool
  | [] => false
  | n :: rest => decide (rest.length = n.toNat + 2)

/-- Step 1 of R25: the check code over the length byte through the last payload byte equals the received one. -/
def crcOk (bs : List Byte) : Bool :=
  decide (bs.drop (bs.length - 2) = checkBytes (bs.take (bs.length - 2)))

/-- Steps 1 to 4 of R25 for a line that takes the kinds `lengths` gives a length for. -/
def frameFault (lengths : Byte → Option Nat) (bs : List Byte) : Option Nak :=
  if crcOk bs then
    match bs with
    | n :: k :: _ =>
      if n.toNat = 0 then some .length
      else
        match lengths k with
        | none => some .kind
        | some len => if n.toNat = len then none else some .length
    | _ => some .length
  else some .crc

/-- The kinds taken outside LOOPBACK, with their lengths N (R25, R181). -/
def headLengths (k : Byte) : Option Nat := if k = stripKind then some 34 else if k = calKind then some 9 else none

/-- The one kind taken in LOOPBACK (R40, R181). -/
def testLengths (k : Byte) : Option Nat := if k = testKind then some 7 else none

/-- Consecutive pairs of bytes as whole numbers. -/
def nat16s : List Byte → List Nat
  | a :: b :: rest => nat16 a b :: nat16s rest
  | _ => []

/-- The payload of a STRIP frame (R1, R181). -/
structure StripFrame where
  lab : Nat
  kindCode : Byte
  code : Nat
  gate : Nat
  counts : Table Nat 12
  deriving DecidableEq, Repr

/-- A STRIP frame's fields, from the bytes after its start byte (R181). -/
def stripFields : List Byte → Option StripFrame
  | _ :: _ :: l1 :: l2 :: k :: c1 :: c2 :: c3 :: c4 :: g1 :: g2 :: rest =>
    (twelve (nat16s (rest.take 24))).map fun counts => ⟨nat16 l1 l2, k, nat32 c1 c2 c3 c4, nat16 g1 g2, counts⟩
  | _ => none

/-- The payload of a CAL frame (R3, R181). -/
structure CalFrame where
  gate : Nat
  opens : Table Nat 3
  deriving DecidableEq, Repr

/-- A CAL frame's fields, from the bytes after its start byte (R181). -/
def calFields : List Byte → Option CalFrame
  | _ :: _ :: g1 :: g2 :: r1 :: r2 :: n1 :: n2 :: b1 :: b2 :: _ =>
    some ⟨nat16 g1 g2, ⟨[nat16 r1 r2, nat16 n1 n2, nat16 b1 b2], rfl⟩⟩
  | _ => none

/-- A CAL frame is acceptable: its gate lies in 256 to 16384 and each open count is at least 1024 (R3). -/
def CalFrame.acceptable (f : CalFrame) : Bool :=
  decide (256 ≤ f.gate) && decide (f.gate ≤ 16384) && f.opens.cells.all fun o => decide (1024 ≤ o)

/-- Steps 1 and 2 of R27: the line of a lab id and process kind. -/
def lineCheck (s : State) (f : StripFrame) : Except Nak (Fin 96 × LineCtx) :=
  match kindOf f.kindCode with
  | none => .error .notEnrolled
  | some kind =>
    if labOk f.lab then
      match s.findLine f.lab kind with
      | none => .error .notEnrolled
      | some n =>
        match s.line n with
        | none => .error .notEnrolled
        | some c => if c.state = .suspended then .error .suspended else .ok (n, c)
    else .error .notEnrolled

/-- Steps 3 to 5 of R27: the slot of a lot code that a line of `kind` may use. -/
def lotCheck (s : State) (kind : ProcessKind) (code : Nat) : Except Nak (Fin 16) :=
  match s.findLot code with
  | none => .error .lotUnknown
  | some k =>
    match s.lot k with
    | none => .error .lotUnknown
    | some l =>
      if l.kind ≠ kind then .error .wrongProcess
      else if l.state = .retired then .error .lotRetired
      else .ok k

/-- The calibration checks of R4, which give the readings where they pass. -/
def calCheck (cal : Calibration) (gate : Nat) (counts : Table Nat 12) : Except Nak (Table Reading 12) :=
  match cal with
  | .uncalibrated => .error .uncalibrated
  | .spent _ _ => .error .uncalibrated
  | .valid opens g _ => if gate = g then .ok (convertAll opens counts) else .error .gateMismatch

/-- Step 6 of R25 for a STRIP frame: the checks of R27 and R4, and the strip record they form. -/
def stripCheck (s : State) (rl : Fin 4) (f : StripFrame) : Except Nak Strip :=
  match lineCheck s f with
  | .error c => .error c
  | .ok (n, ctx) =>
    match lotCheck s ctx.kind f.code with
    | .error c => .error c
    | .ok k =>
      match calCheck (s.reader rl).cal f.gate f.counts with
      | .error c => .error c
      | .ok rs => .ok ⟨rl, f.lab, ctx.kind, f.code, k, n, rs⟩

/-- What the checks of R25 make of a complete frame. -/
inductive Judged where
  | nak (c : Nak) (lab : Option Nat)
  | cal (f : CalFrame)
  | strip (st : Strip)
  deriving DecidableEq, Repr

/-- Steps 5 and 6 of R25 for a STRIP frame; its lab id goes into the fault record (R32). -/
def judgeStrip (s : State) (rl : Fin 4) (f : StripFrame) : Judged :=
  if s.store.loading then .nak .notReady (some f.lab)
  else
    match stripCheck s rl f with
    | .error c => .nak c (some f.lab)
    | .ok st => .strip st

/-- Steps 5 and 6 of R25 for a CAL frame. -/
def judgeCal (s : State) (f : CalFrame) : Judged :=
  if s.store.loading then .nak .notReady none
  else if f.acceptable then .cal f
  else .nak .calWeak none

/-- The checks of R25 on a complete frame outside LOOPBACK, from the bytes after its start byte. -/
def judgeFrame (s : State) (rl : Fin 4) (bs : List Byte) : Judged :=
  match frameFault headLengths bs with
  | some c => .nak c none
  | none =>
    if bs[1]? = some stripKind then
      match stripFields bs with
      | some f => judgeStrip s rl f
      | none => .nak .length none
    else
      match calFields bs with
      | some f => judgeCal s f
      | none => .nak .length none

/-- The outcome of a test frame completed in LOOPBACK: steps 1 to 4 of R25 (R40). -/
def testOutcome (bs : List Byte) : TestResult :=
  match frameFault testLengths bs with
  | none => .pass
  | some .crc => .crc
  | some .kind => .kind
  | some _ => .length

end Sys2Proof.Machine
end

