-- ==== Sys2Proof/Machine/Readers.lean ====
section
/-! DEFINITION. The reader line interfaces (02) and the calibration contexts (01 R2 to R7): characters, breaks, HEAD-READY,
the assembler, the transmitter, the held frames and the reader commands. -/
namespace Sys2Proof.Machine

/-! ### The line's condition -/

/-- Enable on and loopback off: HUNT, RECEIVING or HELD (section 2.5). -/
def Reader.onWire (r : Reader) : Bool := r.enable && !r.loopback

/-- Enable on and loopback on: LOOPBACK (section 2.5). -/
def Reader.inLoop (r : Reader) : Bool := r.enable && r.loopback

/-- The transmitter holds a reply character, in transmission or waiting (R21, R31). -/
def Reader.holdsReply (r : Reader) : Bool :=
  !r.waiting.isEmpty || match r.sending with
    | some ⟨.reply _, _⟩ => true
    | some ⟨.test _, _⟩ => false
    | none => false

/-- The inter-character clock runs: RECEIVING with an empty FIFO (R24, R38). -/
def Reader.interCharacterRuns (r : Reader) : Bool :=
  r.enable && r.fifo.isEmpty && match r.phase with
    | .receiving _ => true
    | .hunt => false
    | .held _ => false

/-! ### Operations on one line -/

/-- A reply is produced: it begins transmission, or waits behind the character in transmission (R31). -/
def Reader.reply (r : Reader) (x : Reply) : Reader :=
  match r.sending with
  | none => { r with sending := some ⟨.reply x, r.rate⟩ }
  | some _ => { r with waiting := r.waiting ++ [x] }

/-- The newest character gains OVERRUN-AFTER (R19). -/
def markNewest : List FifoChar → List FifoChar
  | [] => []
  | [c] => [{ c with tags := { c.tags with overrunAfter := true } }]
  | c :: d :: rest => c :: markNewest (d :: rest)

/-- A completed character joins the FIFO, or is lost with the OVERRUN-AFTER marking when the FIFO is full (R19). -/
def Reader.enter (r : Reader) (c : FifoChar) : Reader :=
  if r.fifo.length < Config.fifoDepth then { r with fifo := r.fifo ++ [c] } else { r with fifo := markNewest r.fifo }

/-- The disposal of a character completed on the receive wire: ignored on an OFF line and in LOOPBACK, not entered while
HEAD-READY is low (R19, R20, R38). -/
def Reader.dispose (r : Reader) (c : FifoChar) : Reader :=
  if r.onWire && r.headReady then r.enter c else r

/-- One strip served by the calibration (R5). -/
def Calibration.serve : Calibration → Calibration
  | .uncalibrated => .uncalibrated
  | .spent opens gate => .spent opens gate
  | .valid opens gate remaining => if remaining ≤ 1 then .spent opens gate else .valid opens gate (remaining - 1)

/-- The calibration is in force (R2). -/
def Calibration.inForce : Calibration → Bool
  | .uncalibrated => false
  | .spent _ _ => false
  | .valid _ _ _ => true

/-! ### Operations on the part -/

/-- A line's frame no longer waits for a queue place (R29). -/
def State.unhold (s : State) (rl : Fin 4) : State :=
  { s with heldOrder := s.heldOrder.filter fun x => x != rl }

/-- A frame fails: it is discarded, answered NAK, the fault record is updated and the assembler hunts (R25, R32). -/
def State.nakFrame (s : State) (rl : Fin 4) (c : Nak) (lab : Option Nat) : State :=
  (s.setReader rl ({ s.reader rl with phase := .hunt }.reply (.nak c))).chargeFault rl (.nak c) .frame lab

/-- A strip record is appended with the current day number, the head is answered ACCEPTED and the calibration serves one
strip (R5, R28, R29). -/
def State.appendStrip (s : State) (rl : Fin 4) (st : Strip) : State :=
  let r := s.reader rl
  { s.setReader rl ({ r with phase := .hunt, cal := r.cal.serve }.reply .accepted) with
    queue := s.queue ++ [⟨st, s.day.number⟩] }

/-- A strip frame finds no place: it is HELD behind the frames held before it, and the head is answered WAIT (R29). -/
def State.holdStrip (s : State) (rl : Fin 4) (st : Strip) : State :=
  { s.setReader rl ({ s.reader rl with phase := .held st }.reply .wait) with heldOrder := s.heldOrder ++ [rl] }

/-- A CAL frame is accepted: the context becomes VALID with the line's CAL-LIFE (R3, R26). -/
def State.acceptCal (s : State) (rl : Fin 4) (f : CalFrame) : State :=
  let r := s.reader rl
  s.setReader rl ({ r with phase := .hunt, cal := .valid f.opens f.gate r.calLife }.reply .accepted)

/-- The completion of a frame outside LOOPBACK (R25 to R29). -/
def State.completeFrame (s : State) (rl : Fin 4) (bs : List Byte) : State :=
  match judgeFrame s rl bs with
  | .nak c lab => s.nakFrame rl c lab
  | .cal f => s.acceptCal rl f
  | .strip st =>
    if s.queue.length < Config.queueDepth && s.heldOrder.isEmpty then s.appendStrip rl st else s.holdStrip rl st

/-! ### Events on the receive side -/

/-- CHARACTER_COMPLETE (R17, R18, R19): with its stop bit at space on a line that is neither OFF nor in LOOPBACK it is
withheld, or discarded when a break of the same space, which the latch shows, has been detected first and takes its
place; with its stop bit at mark it is disposed of with its PARITY tag. While a character is withheld the input is at
space, so no other can complete (log 29). -/
def execCharacterComplete (rl : Fin 4) (data : Byte) (parity stop : Bool) (s : State) :
    Host.Outcome State Fault Refusal :=
  let r := s.reader rl
  .next (
    if r.withheld.isSome then s
    else if stop then
      s.setReader rl (r.dispose ⟨data, { Tags.none with parity := oddParity data parity }⟩)
    else if r.onWire && !r.breakLatch then s.setReader rl { r with withheld := some ⟨data, parity⟩ }
    else s)

/-- BREAK_DETECTED (R18): once for each continuous space; on a line that is neither OFF nor in LOOPBACK the assembler is
reset to HUNT and a zero character tagged BREAK is disposed of. -/
def execBreakDetected (rl : Fin 4) (s : State) : Host.Outcome State Fault Refusal :=
  let r := s.reader rl
  .next (
    if r.breakLatch || r.inLoop then s
    else if r.onWire then
      (s.setReader rl ({ r with phase := .hunt, withheld := none, breakLatch := true }.dispose
        ⟨0#8, { Tags.none with brk := true }⟩)).unhold rl
    else s.setReader rl { r with breakLatch := true, withheld := none })

/-- FRAMING_CHARACTER_RELEASED (R18): the withheld character is disposed of tagged FRAMING, and PARITY if odd. The
HEAD-READY level that decides its entry is the one at the release: DESIGN CHOICE, unsafe (log 31). -/
def execFramingCharacterReleased (rl : Fin 4) (s : State) : Host.Outcome State Fault Refusal :=
  let r := s.reader rl
  .next (
    match r.withheld with
    | none => s
    | some w =>
      s.setReader rl ({ r with withheld := none }.dispose
        ⟨w.data, { Tags.none with framing := true, parity := oddParity w.data w.parity }⟩))

/-- RETURN_TO_MARK_AFTER_BREAK (R18): another break can be detected. It clears the latch in LOOPBACK too: DESIGN CHOICE,
unsafe (log 32). -/
def execReturnToMarkAfterBreak (rl : Fin 4) (s : State) : Host.Outcome State Fault Refusal :=
  .next (s.setReader rl { s.reader rl with breakLatch := false })

/-- HEAD_READY_CHANGE (R20): the level changes and the delta flag is set; a fall discards a frame being received or held,
without a reply, on a line that is neither OFF nor in LOOPBACK. -/
def execHeadReadyChange (rl : Fin 4) (s : State) : Host.Outcome State Fault Refusal :=
  let r := s.reader rl
  let changed := { r with headReady := !r.headReady, delta := true }
  .next (
    if r.headReady && r.onWire then (s.setReader rl { changed with phase := .hunt }).unhold rl
    else s.setReader rl changed)

/-! ### The assembler -/

/-- A character consumed in HUNT: an untagged start byte begins a frame while HEAD-READY is high (R20, R22). -/
def huntStep (r : Reader) (gate : Bool) (c : FifoChar) : Phase :=
  if c.starts && (r.headReady || !gate) then .receiving [] else .hunt

/-- A character consumed outside LOOPBACK, `s` holding the line with the character already out of its FIFO (R22, R23). -/
def State.consumeOnWire (s : State) (rl : Fin 4) (c : FifoChar) : State :=
  let r := s.reader rl
  match r.phase with
  | .held _ => s
  | .hunt => s.setReader rl { r with phase := huntStep r true c }
  | .receiving bs =>
    if c.tags.brk then s.setReader rl { r with phase := .hunt }
    else if c.tags.faulty then s.nakFrame rl .lineError none
    else if frameComplete (bs ++ [c.data]) then s.completeFrame rl (bs ++ [c.data])
    else s.setReader rl { r with phase := .receiving (bs ++ [c.data]) }

/-- A test outcome: it is written when a test is RUNNING, and the assembler returns to its hunting phase (R40). -/
def Reader.endTest (r : Reader) (t : TestResult) : Reader :=
  { r with phase := .hunt, test := if r.test = .running then t else r.test }

/-- A character consumed in LOOPBACK, `r` with the character already out of its FIFO (R38, R40). -/
def Reader.consumeInLoop (r : Reader) (c : FifoChar) : Reader :=
  match r.phase with
  | .held _ => r
  | .hunt => { r with phase := huntStep r false c }
  | .receiving bs =>
    if c.tags.brk then { r with phase := .hunt }
    else if c.tags.faulty then r.endTest .lineError
    else if frameComplete (bs ++ [c.data]) then r.endTest (testOutcome (bs ++ [c.data]))
    else { r with phase := .receiving (bs ++ [c.data]) }

/-- Whether the assembler consumes the character at the FIFO head (R21). -/
def Reader.consumes (r : Reader) : Bool :=
  r.enable && !r.fifo.isEmpty &&
    match r.phase with
    | .held _ => false
    | .hunt => r.loopback || !r.holdsReply
    | .receiving _ => r.loopback || !r.holdsReply

/-- CONSUME_CHARACTER (R21 to R23): the character at the FIFO head leaves the FIFO and is handled. -/
def execConsumeCharacter (rl : Fin 4) (s : State) : Host.Outcome State Fault Refusal :=
  let r := s.reader rl
  .next (
    if r.consumes then
      match r.fifo with
      | [] => s
      | c :: rest =>
        if r.loopback then s.setReader rl ({ r with fifo := rest }.consumeInLoop c)
        else (s.setReader rl { r with fifo := rest }).consumeOnWire rl c
    else s)

/-- INTER_CHARACTER_TIMEOUT (R24, R40): the frame is answered NAK TIMEOUT, or in LOOPBACK the test result is TIMEOUT. -/
def execInterCharacterTimeout (rl : Fin 4) (s : State) : Host.Outcome State Fault Refusal :=
  let r := s.reader rl
  .next (
    if r.interCharacterRuns then
      if r.loopback then s.setReader rl (r.endTest .timeout) else s.nakFrame rl .timeout none
    else s)

/-- HOLD_CLOCK_EXPIRY (R29): the held frame is discarded and answered NAK FULL. -/
def execHoldClockExpiry (rl : Fin 4) (s : State) : Host.Outcome State Fault Refusal :=
  let r := s.reader rl
  .next (
    if r.onWire then
      match r.phase with
      | .held st => (s.nakFrame rl .full (some st.lab)).unhold rl
      | .hunt => s
      | .receiving _ => s
    else s)

/-! ### The transmitter -/

/-- The character in transmission is a reply. -/
def Reader.sendsReply (r : Reader) : Bool :=
  match r.sending with
  | some ⟨.reply _, _⟩ => true
  | some ⟨.test _, _⟩ => false
  | none => false

/-- The transmitter takes the next waiting reply, at the line's rate (R31). -/
def Reader.nextReply (r : Reader) : Reader :=
  match r.waiting with
  | [] => { r with sending := none }
  | x :: rest => { r with sending := some ⟨.reply x, r.rate⟩, waiting := rest }

/-- REPLY_CHARACTER_SENT (R31). -/
def execReplyCharacterSent (rl : Fin 4) (s : State) : Host.Outcome State Fault Refusal :=
  .next (if (s.reader rl).sendsReply then s.setReader rl (s.reader rl).nextReply else s)

/-- The test sender passes its next character to the empty transmitter (R39). -/
def Reader.nextTest (r : Reader) : Reader :=
  match r.testSender with
  | [] => { r with sending := none }
  | b :: rest => { r with sending := some ⟨.test b, r.rate⟩, testSender := rest }

/-- TEST_CHARACTER_SENT (R38, R39): the character completes at the line's own receiver, HEAD-READY not gating it, and the
test sender passes on the next (log 10). -/
def execTestCharacterSent (rl : Fin 4) (s : State) : Host.Outcome State Fault Refusal :=
  let r := s.reader rl
  .next (
    if r.inLoop then
      match r.sending with
      | some ⟨.test b, _⟩ => s.setReader rl (r.enter ⟨b, Tags.none⟩).nextTest
      | some ⟨.reply _, _⟩ => s
      | none => s
    else s)

/-! ### The reader commands -/

/-- Whether a SET-READER acts on the assembler: enable, loopback or rate changes, the last two with enable on (R35). -/
def Reader.discards (r : Reader) (x : ReaderSettings) : Bool :=
  (r.enable != x.enable) || (r.enable && ((r.loopback != x.loopback) || decide (r.rate ≠ x.rate)))

/-- Whether a SET-READER ends a loopback test: it acts on a line in LOOPBACK (R35, R39). -/
def Reader.leavesTest (r : Reader) (x : ReaderSettings) : Bool := r.discards x && r.inLoop

/-- Whether a SET-READER empties the transmitter: the line enters OFF or LOOPBACK (R31). -/
def Reader.emptiesTx (r : Reader) (x : ReaderSettings) : Bool :=
  r.enable && (!x.enable || (!r.loopback && x.loopback))

/-- A line with its settings replaced (R34) and the effects of the changes of enable, loopback and rate (R35, R39). A
character withheld or in reception goes with the FIFO (log 9). The latch of a break is kept, through LOOPBACK too: DESIGN
CHOICE, unsafe (log 32). -/
def Reader.configure (r : Reader) (x : ReaderSettings) : Reader :=
  { r with
    enable := x.enable, rate := x.rate, loopback := x.loopback, calLife := x.calLife
    fifo := if r.discards x then [] else r.fifo
    withheld := if r.discards x then none else r.withheld
    phase := if r.discards x then .hunt else r.phase
    sending := if r.emptiesTx x || r.leavesTest x then none else r.sending
    waiting := if r.emptiesTx x then [] else r.waiting
    testSender := if r.leavesTest x then [] else r.testSender
    test := if r.leavesTest x && decide (r.test = .running) then .aborted else r.test }

/-- SET-READER (R34, R35). -/
def setReaderAct (x : ReaderSettings) (s : State) : Answer :=
  let s' := s.setReader x.rl ((s.reader x.rl).configure x)
  .done (if (s.reader x.rl).discards x then s'.unhold x.rl else s') .ok []

/-- CLEAR-READER-FAULTS (R33): the count becomes 0 and the last fault stays. -/
def clearFaultsAct (rl : Fin 4) (s : State) : Answer :=
  let r := s.reader rl
  .done (s.setReader rl { r with fault := { r.fault with count := 0 } }) .ok []

/-- TEST-READER (R39): the test frame waits in the test sender, and its first character begins at once when the
transmitter is empty (log 11). -/
def testReaderAct (rl : Fin 4) (s : State) : Answer :=
  let r := s.reader rl
  if !r.inLoop then .refuse .state
  else if r.test = .running then .refuse .busy
  else
    let queued := { r with test := .running, testSender := r.testSender ++ testFrame }
    .done (s.setReader rl (if r.sending.isNone then queued.nextTest else queued)) .ok []

/-- SET-READER (R34, R35). -/
def execSetReader (p : Port) (s : State) : Host.Outcome State Fault Refusal :=
  .next (runCommand .setReader p s parseSetReader noItem setReaderAct)

/-- CLEAR-READER-FAULTS (R33). -/
def execClearReaderFaults (p : Port) (s : State) : Host.Outcome State Fault Refusal :=
  .next (runCommand .clearReaderFaults p s (parseIndex 4) noItem clearFaultsAct)

/-- TEST-READER (R39). -/
def execTestReader (p : Port) (s : State) : Host.Outcome State Fault Refusal :=
  .next (runCommand .testReader p s (parseIndex 4) noItem testReaderAct)

end Sys2Proof.Machine
end

