-- ==== Sys2Proof/Machine/Engine.lean ====
section
/-! DEFINITION. The evaluation engine (03): the take, the grant of the freed place, the re-check, the computation, the
placement on the chart and the alerts offered at evaluation. -/
namespace Sys2Proof.Machine

/-! ### The grant of a freed place (R30) -/

/-- The freed place goes to the held frames in the order they entered HELD, until one is appended or none is held. A
frame whose calibration is no longer in force is refused UNCALIBRATED (R6, log 13). -/
def grantTo : List (Fin 4) → State → State
  | [], s => { s with heldOrder := [] }
  | rl :: rest, s =>
    match (s.reader rl).phase with
    | .held st =>
      if (s.reader rl).cal.inForce then { s.appendStrip rl st with heldOrder := rest }
      else grantTo rest (s.nakFrame rl .uncalibrated (some st.lab))
    | .hunt => grantTo rest s
    | .receiving _ => grantTo rest s

/-- The grant of a freed queue place (R30, R44). -/
def State.grant (s : State) : State := grantTo s.heldOrder s

/-! ### The re-check (R48) -/

/-- The re-check of a record against the tables: the line and the lot it passes with, or the first failing check's
evaluation fault code (R48). -/
def recheck (s : State) (st : Strip) : Except FaultCode (LineCtx × Lot) :=
  match s.line st.line with
  | none => .error .lineGone
  | some c =>
    if c.lab ≠ st.lab ∨ c.kind ≠ st.kind then .error .lineGone
    else if c.state = .suspended then .error (.nak .suspended)
    else
      match s.lot st.slot with
      | none => .error .lotGone
      | some l =>
        if l.code ≠ st.code ∨ l.kind ≠ st.kind then .error .lotGone
        else if l.state = .retired then .error (.nak .lotRetired)
        else .ok (c, l)

/-! ### Computation and placement (R50 to R57) -/

/-- What the computation gives (R50). -/
structure Computed where
  values : Table Int 12
  deviations : Table Int 12
  verdicts : Table Verdict 12
  deriving DecidableEq, Repr

/-- The control values, deviations and provisional verdicts of a strip against its lot and its line's active aims
(R11, R12, R13, R50). -/
def compute (st : Strip) (l : Lot) (part : AimPart) : Computed :=
  { values := controlValues st.readings
    deviations := deviationsOf (controlValues st.readings) l.refs l.active part.aims
    verdicts := verdictsOf part.aims (deviationsOf (controlValues st.readings) l.refs l.active part.aims) }

/-- A new point (R52, R53). -/
def newPoint (rec : StripRecord) (c : LineCtx) (part : AimPart) (x : Computed) : Point :=
  { day := rec.day, state := .provisional, head := rec.strip.reader, code := rec.strip.code, slot := rec.strip.slot,
    epoch := c.epoch, settling := decide (c.epochPoints < part.settling), doubtful := doubtfulOf rec.strip.readings,
    reruns := 0, readings := rec.strip.readings, values := x.values, deviations := x.deviations,
    verdicts := x.verdicts, first := none, cross := none }

/-- A point updated by a rerun (R54). -/
def rerunPoint (pt : Point) (rec : StripRecord) (x : Computed) : Point :=
  { pt with
    first := match pt.first with
      | some f => some f
      | none => some ⟨pt.readings, pt.values⟩
    readings := rec.strip.readings, values := x.values, deviations := x.deviations, verdicts := x.verdicts
    head := rec.strip.reader, slot := rec.strip.slot, doubtful := doubtfulOf rec.strip.readings
    reruns := satSucc 7 pt.reruns }

/-- The crossover part a strip makes beside a point (R55). -/
def crossPart (pt : Point) (rec : StripRecord) (x : Computed) : CrossPart :=
  { code := rec.strip.code, slot := rec.strip.slot, readings := rec.strip.readings, values := x.values,
    deviations := x.deviations, differences := Table.ofFn fun v => x.deviations.get v - pt.deviations.get v }

/-- A point joins the ring at its newest end; the oldest leaves a full ring first (R52). -/
def ringAppend (ring : List Point) (pt : Point) : List Point :=
  (if ring.length < Config.ringDepth then ring else ring.drop 1) ++ [pt]

/-- The line's state and missed-day count after an evaluated strip, in every placement case (R57, R69). -/
def LineCtx.stripSeen (c : LineCtx) : LineCtx :=
  { c with missed := 0, state := if c.state = .overdue then .active else c.state }

/-- The placement cases (R51). A FINAL point of the stamp day cannot be reached (R51); like a VOID one it is not changed
by any strip (R73, log 28). -/
inductive Placement where
  | newPoint
  | rerun (pt : Point)
  | crossover (pt : Point)
  | voidDay
  deriving DecidableEq, Repr

/-- The placement case of a record (R51). -/
def placementOf (ring : List Point) (rec : StripRecord) : Placement :=
  match ringAt ring rec.day with
  | none => .newPoint
  | some pt =>
    match pt.state with
    | .provisional => if pt.code = rec.strip.code then .rerun pt else .crossover pt
    | .void => .voidDay
    | .final _ _ _ => .voidDay

/-- The line after the placement of a record (R51 to R57). -/
def placed (c : LineCtx) (rec : StripRecord) (part : AimPart) (x : Computed) : LineCtx :=
  match placementOf c.ring rec with
  | .newPoint =>
    { c.stripSeen with
      ring := ringAppend c.ring (newPoint rec c part x), epochPoints := satSucc 255 c.epochPoints }
  | .rerun pt => { c.stripSeen with ring := ringReplace c.ring (rerunPoint pt rec x) }
  | .crossover pt => { c.stripSeen with ring := ringReplace c.ring { pt with cross := some (crossPart pt rec x) } }
  | .voidDay => c.stripSeen

/-! ### Alerts offered at evaluation (R58 to R60) -/

/-- The offer of a value of a new point (R58). -/
def newOffer (n : Fin 96) (day : Nat) (x : Computed) (v : Fin 12) : Option Offer :=
  (x.verdicts.get v).report.map fun k => ⟨⟨.line n, some v⟩, k, day, some (x.deviations.get v)⟩

/-- The offer of a value of a rerun, from its verdicts before and after (R59). -/
def rerunOffer (n : Fin 96) (day : Nat) (before : Table Verdict 12) (x : Computed) (v : Fin 12) : Option Offer :=
  match (x.verdicts.get v).report with
  | some k => some ⟨⟨.line n, some v⟩, k, day, some (x.deviations.get v)⟩
  | none =>
    if before.get v = .inside then none
    else some ⟨⟨.line n, some v⟩, .recovered, day, some (x.deviations.get v)⟩

/-- The largest magnitude among twelve numbers (R60). -/
def largestMagnitude (t : Table Int 12) : Nat := t.cells.foldl (fun m i => max m i.natAbs) 0

/-- The CROSSOVER offer, made when the largest difference exceeds the tolerance (R60). -/
def crossOffer (n : Fin 96) (day tolerance : Nat) (part : CrossPart) : List Offer :=
  if tolerance < largestMagnitude part.differences then
    [⟨⟨.line n, none⟩, .crossover, day, some (largestMagnitude part.differences)⟩]
  else []

/-- The offers of a take, in order (R58 to R60, R56). -/
def takeOffers (c : LineCtx) (rec : StripRecord) (x : Computed) (tolerance : Nat) : List Offer :=
  match placementOf c.ring rec with
  | .newPoint => (List.finRange 12).filterMap (newOffer rec.strip.line rec.day x)
  | .rerun pt => (List.finRange 12).filterMap (rerunOffer rec.strip.line rec.day pt.verdicts x)
  | .crossover pt => crossOffer rec.strip.line rec.day tolerance (crossPart pt rec x)
  | .voidDay => []

/-! ### The take -/

/-- A record that passes the re-check is computed, placed and reported (R50 to R60). -/
def State.place (s : State) (rec : StripRecord) (c : LineCtx) (l : Lot) : State :=
  let part := (s.aim c.aim).active
  let x := compute rec.strip l part
  (s.setLine rec.strip.line (some (placed c rec part x))).offerAll (takeOffers c rec x s.day.desk.tolerance)

/-- A taken record is re-checked, and dropped with an evaluation fault or evaluated (R48 to R50). -/
def State.evaluate (s : State) (rec : StripRecord) : State :=
  match recheck s rec.strip with
  | .error code => s.chargeFault rec.strip.reader code .evaluation (some rec.strip.lab)
  | .ok (c, l) => s.place rec c l

/-- The take condition (R45). -/
def State.takes (s : State) : Bool :=
  match s.day.state with
  | .dayOpen => !s.queue.isEmpty
  | .draining => decide (0 < s.drain)
  | .closing _ => false
  | .transferWait => false

/-- A take in OPEN: the record leaves, its place is granted, and it is evaluated (R44, R45, log 12). -/
def State.takeRecord (s : State) (rec : StripRecord) (rest : List StripRecord) : State :=
  ({ s with queue := rest }.grant).evaluate rec

/-- The take that brings the drain count to 0 ends the drain within its event: the close pass begins (R45, R120). -/
def State.endDrain (s : State) : State :=
  if s.drain = 0 then s.setDay { s.day with state := .closing (.consensus 0) } else s

/-- EVALUATION_TAKE (R45): the record at the queue head is taken when the take condition holds. -/
def execEvaluationTake (s : State) : Host.Outcome State Fault Refusal :=
  .next (
    if s.takes then
      match s.queue with
      | [] => s
      | rec :: rest =>
        if s.day.state = .draining then ({ s with drain := s.drain - 1 }.takeRecord rec rest).endDrain
        else s.takeRecord rec rest
    else s)

end Sys2Proof.Machine
end

