-- ==== Sys2Proof/Machine/Holds.lean ====
section
/-! DEFINITION. The hold table (09 R161 to R164): the commands HOLD, RENEW and RELEASE and the ends of lease minutes. -/
namespace Sys2Proof.Machine

/-- The table with the lease of an item's record set (R162, R163). -/
def setLease (holds : List Hold) (i : Item) (lease : Nat) : List Hold :=
  holds.map fun h => if h.item = i then { h with lease := lease } else h

/-- The table without an item's record (R163, R164). -/
def freeItem (holds : List Hold) (i : Item) : List Hold := holds.filter fun h => h.item != i

/-- HOLD (R162): granted, renewed, refused HOLD-FULL or refused HELD. -/
def holdAct (p : Port) (i : Item) (lease : Nat) (s : State) : Answer :=
  match s.holder i with
  | none =>
    if s.holds.length < Config.holdDepth then
      .done { s with holds := s.holds ++ [⟨i, p, lease⟩] } .ok [byte lease]
    else .refuse .holdFull
  | some q =>
    if q = p then .done { s with holds := setLease s.holds i lease } .ok [byte lease] else .refuse .held

/-- RENEW (R163). -/
def renewAct (p : Port) (i : Item) (lease : Nat) (s : State) : Answer :=
  match s.holder i with
  | none => .refuse .stale
  | some q =>
    if q = p then .done { s with holds := setLease s.holds i lease } .ok [byte lease] else .refuse .held

/-- RELEASE (R163). -/
def releaseAct (p : Port) (i : Item) (s : State) : Answer :=
  match s.holder i with
  | none => .refuse .stale
  | some q => if q = p then .done { s with holds := freeItem s.holds i } .ok [] else .refuse .held

/-- A lease expires: the record is removed and its owner's HOLD-LAPSE is set (R164). -/
def State.expireLease (s : State) (h : Hold) : State :=
  { s with holds := freeItem s.holds h.item }.raiseAt h.owner .holdLapse

/-- LEASE_TICK (R164): the lease falls by one minute; the last minute's end is its expiry (log 14). -/
def execLeaseTick (i : Item) (s : State) : Host.Outcome State Fault Refusal :=
  .next (
    match s.holdOn i with
    | none => s
    | some h => if h.lease ≤ 1 then s.expireLease h else { s with holds := setLease s.holds i (h.lease - 1) })

/-- LEASE_EXPIRY (R164): at the end of the last minute. -/
def execLeaseExpiry (i : Item) (s : State) : Host.Outcome State Fault Refusal :=
  .next (
    match s.holdOn i with
    | none => s
    | some h => if h.lease ≤ 1 then s.expireLease h else s)

/-- HOLD (R162). -/
def execHold (p : Port) (s : State) : Host.Outcome State Fault Refusal :=
  .next (runCommand .hold p s parseHold noItem fun a => holdAct p a.1 a.2)

/-- RENEW (R163). -/
def execRenew (p : Port) (s : State) : Host.Outcome State Fault Refusal :=
  .next (runCommand .renew p s parseHold noItem fun a => renewAct p a.1 a.2)

/-- RELEASE (R163). -/
def execRelease (p : Port) (s : State) : Host.Outcome State Fault Refusal :=
  .next (runCommand .release p s parseRelease noItem (releaseAct p))

end Sys2Proof.Machine
end

