-- ==== Sys2Proof/Machine/Lines.lean ====
section
/-! DEFINITION. The line commands that change a line (04 R64 to R68, R74, R81, R82; 05 R97): enrolment, suspension,
resumption, withdrawal, the binding to an aim set, chemistry events and the voiding of a point. -/
namespace Sys2Proof.Machine

/-! ### Enrolment (R64) -/

/-- The UNUSED lines, lowest first. -/
def State.unusedLines (s : State) : List (Fin 96) := (List.finRange 96).filter fun n => (s.line n).isNone

/-- A line is taken for a key: it becomes ENROLLED and its map entry joins (R64). -/
def State.enrol (s : State) (n : Fin 96) (lab : Nat) (kind : ProcessKind) (aim : Fin 16) : State :=
  { s.setLine n (some (LineCtx.fresh .enrolled lab kind aim)) with labMap := s.labMap ++ [⟨lab, kind, n⟩] }

/-- ENROLL-LINE: the four checks of R64 in order, then the lowest UNUSED line not held by the other port. -/
def enrollLineAct (p : Port) (lab : Nat) (kind : ProcessKind) (aim : Fin 16) (s : State) : Answer :=
  if (s.findLine lab kind).isSome then .refuse .duplicate
  else if (s.aim aim).kind ≠ kind then .refuse .state
  else if s.unusedLines.isEmpty then .refuse .full
  else
    match s.unusedLines.find? fun n => !s.heldByOther p (.line n) with
    | none => .refuse .held
    | some n => .done (s.enrol n lab kind aim) .ok [byte n.val]

/-! ### Suspension, resumption, withdrawal (R66 to R68) -/

/-- SUSPEND-LINE (R66): everything but the state stays. -/
def suspendLineAct (n : Fin 96) (s : State) : Answer :=
  match s.line n with
  | none => .refuse .state
  | some c =>
    if c.state = .suspended then .refuse .state
    else .done (s.setLine n (some { c with state := .suspended })) .ok []

/-- A line resumed (R67). -/
def LineCtx.resumed (c : LineCtx) : LineCtx :=
  { c with
    state := .enrolled, filters := Table.fill 12 Filter.clear, warn := Table.fill 12 none, missed := 0 }

/-- RESUME-LINE (R67). -/
def resumeLineAct (n : Fin 96) (s : State) : Answer :=
  match s.line n with
  | none => .refuse .state
  | some c => if c.state = .suspended then .done (s.setLine n (some c.resumed)) .ok [] else .refuse .state

/-- The numbers of the entries whose subject is `x`, oldest first (R145). -/
def State.entriesOf (s : State) (x : Subject) : List (Fin 32) :=
  (s.alerts.filter fun e => e.key.subject == x).map AlertEntry.number

/-- A line's waiting alerts are cleared and then its entries leave, oldest first (R68, R145). -/
def State.dropLineAlerts (s : State) (n : Fin 96) (c : LineCtx) : State :=
  let s' := s.setLine n (some { c with waiting := Table.fill 13 none })
  s'.departAll (s'.entriesOf (.line n))

/-- A line is withdrawn (R68): its alerts and its map entry go and it is UNUSED. -/
def State.withdraw (s : State) (n : Fin 96) (c : LineCtx) : State :=
  let s' := s.dropLineAlerts n c
  { s'.setLine n none with labMap := s'.labMap.filter fun e => e.line != n }

/-- WITHDRAW-LINE (R68). -/
def withdrawLineAct (n : Fin 96) (s : State) : Answer :=
  match s.line n with
  | none => .refuse .state
  | some c => if c.state = .suspended then .done (s.withdraw n c) .ok [] else .refuse .state

/-! ### Binding, chemistry events, voiding -/

/-- SET-LINE-AIM (R97). -/
def setLineAimAct (n : Fin 96) (k : Fin 16) (s : State) : Answer :=
  match s.line n with
  | none => .refuse .state
  | some c =>
    if c.kind ≠ (s.aim k).kind then .refuse .state
    else .done (s.setLine n (some { c with aim := k })) .ok []

/-- A line after NEW-MIX (`mix`) or RATE-CHANGE (R82). -/
def LineCtx.chem (c : LineCtx) (mix : Bool) : LineCtx :=
  { c with
    filters := Table.fill 12 Filter.clear
    epoch := if mix then c.epoch + 1 else c.epoch
    epochPoints := if mix then 0 else c.epochPoints
    warn := if mix then Table.fill 12 none else c.warn }

/-- CHEM-EVENT (R81): refused HELD when the other port holds the line, then STATE when it is UNUSED or SUSPENDED. -/
def chemEventAct (p : Port) (n : Fin 96) (mix : Bool) (s : State) : Answer :=
  if s.heldByOther p (.line n) then .refuse .held
  else
    match s.line n with
    | none => .refuse .state
    | some c =>
      if c.state = .suspended then .refuse .state else .done (s.setLine n (some (c.chem mix))) .ok []

/-- VOID-POINT (R74): the point of the named day becomes VOID; a FINAL point's residuals, verdicts and set go with its
state. -/
def voidPointAct (n : Fin 96) (day : Nat) (s : State) : Answer :=
  match s.line n with
  | none => .refuse .state
  | some c =>
    match ringAt c.ring day with
    | none => .refuse .notFound
    | some pt =>
      if pt.state = .void then .refuse .state
      else .done (s.setLine n (some { c with ring := ringReplace c.ring { pt with state := .void } })) .ok []

/-! ### The commands -/

/-- ENROLL_LINE (R64). -/
def execEnrollLine (p : Port) (s : State) : Host.Outcome State Fault Refusal :=
  .next (runCommand .enrollLine p s parseEnroll noItem fun a => enrollLineAct p a.1 a.2.1 a.2.2)

/-- SUSPEND_LINE (R66). -/
def execSuspendLine (p : Port) (s : State) : Host.Outcome State Fault Refusal :=
  .next (runCommand .suspendLine p s (parseIndex 96) (fun n => some (.line n)) suspendLineAct)

/-- RESUME_LINE (R67). -/
def execResumeLine (p : Port) (s : State) : Host.Outcome State Fault Refusal :=
  .next (runCommand .resumeLine p s (parseIndex 96) (fun n => some (.line n)) resumeLineAct)

/-- WITHDRAW_LINE (R68). -/
def execWithdrawLine (p : Port) (s : State) : Host.Outcome State Fault Refusal :=
  .next (runCommand .withdrawLine p s (parseIndex 96) (fun n => some (.line n)) withdrawLineAct)

/-- SET_LINE_AIM (R97). -/
def execSetLineAim (p : Port) (s : State) : Host.Outcome State Fault Refusal :=
  .next (runCommand .setLineAim p s parseSetLineAim (fun a => some (.line a.1)) fun a => setLineAimAct a.1 a.2)

/-- CHEM_EVENT (R81, R82). -/
def execChemEvent (p : Port) (s : State) : Host.Outcome State Fault Refusal :=
  .next (runCommand .chemEvent p s parseChem noItem fun a => chemEventAct p a.1 a.2)

/-- VOID_POINT (R74). -/
def execVoidPoint (p : Port) (s : State) : Host.Outcome State Fault Refusal :=
  .next (runCommand .voidPoint p s parseVoid (fun a => some (.line a.1)) fun a => voidPointAct a.1 a.2)

end Sys2Proof.Machine
end

