-- ==== Sys2Proof/Machine/Lots.lean ====
section
/-! DEFINITION. The lot commands (06): definition, the current lot and its predecessor, retirement, clearing,
corrections and the adoption of a proposal. -/
namespace Sys2Proof.Machine

/-- A slot just defined (R104). -/
def Lot.fresh (code : Nat) (kind : ProcessKind) (refs : Table Int 12) : Lot :=
  { state := .defined, code := code, kind := kind, refs := refs, active := Table.fill 12 0, pending := Table.fill 12 0,
    shift := none, proposal := none, waiting := Table.fill 12 none }

/-- DEFINE-LOT (R104). -/
def defineLotAct (x : LotOperands) (s : State) : Answer :=
  if (s.lot x.slot).isSome then .refuse .state
  else if (s.findLot x.code).isSome then .refuse .duplicate
  else .done (s.setLot x.slot (some (Lot.fresh x.code x.kind x.refs))) .ok []

/-- The CURRENT slot of a process kind (R105). -/
def State.currentOf (s : State) (kind : ProcessKind) : Option (Fin 16 × Lot) :=
  (List.finRange 16).findSome? fun j =>
    match s.lot j with
    | none => none
    | some m => if m.state = .current ∧ m.kind = kind then some (j, m) else none

/-- A slot in a new state. -/
def Lot.into (l : Lot) (st : LotState) : Lot := { l with state := st }

/-- MAKE-CURRENT (R105): the predecessor, if there is one, must be free of the other port and becomes RETIRING for the
crossover days. -/
def makeCurrentAct (p : Port) (k : Fin 16) (s : State) : Answer :=
  match s.lot k with
  | none => .refuse .state
  | some l =>
    if l.state ≠ .defined then .refuse .state
    else
      match s.currentOf l.kind with
      | none => .done (s.setLot k (some (l.into .current))) .ok []
      | some (j, m) =>
        if s.heldByOther p (.lot j) then .refuse .held
        else
          .done ((s.setLot j (some (m.into (.retiring s.day.desk.crossoverDays)))).setLot k (some (l.into .current)))
            .ok []

/-- RETIRE-LOT (R107). -/
def retireLotAct (k : Fin 16) (s : State) : Answer :=
  match s.lot k with
  | none => .refuse .state
  | some l => if l.state = .retired then .refuse .state else .done (s.setLot k (some (l.into .retired))) .ok []

/-- A slot's waiting alerts are cleared and then its entries leave, oldest first (R108, R145). -/
def State.dropLotAlerts (s : State) (k : Fin 16) (l : Lot) : State :=
  let s' := s.setLot k (some { l with waiting := Table.fill 12 none })
  s'.departAll (s'.entriesOf (.lot k))

/-- CLEAR-LOT (R108). -/
def clearLotAct (k : Fin 16) (s : State) : Answer :=
  match s.lot k with
  | none => .refuse .state
  | some l => if l.state = .retired then .done ((s.dropLotAlerts k l).setLot k none) .ok [] else .refuse .state

/-- WRITE-CORRECTION (R110). -/
def writeCorrectionAct (k : Fin 16) (v : Fin 12) (x : Int) (s : State) : Answer :=
  match s.lot k with
  | none => .refuse .state
  | some l =>
    if l.state = .retired then .refuse .state
    else .done (s.setLot k (some { l with pending := l.pending.set v x })) .ok []

/-- The pending corrections after a proposal is adopted (R114). -/
def adopted (pending : Table Int 12) (proposal : Table (Option Int) 12) : Table Int 12 :=
  Table.ofFn fun v => (proposal.get v).getD (pending.get v)

/-- ADOPT-PROPOSAL (R114). -/
def adoptProposalAct (k : Fin 16) (s : State) : Answer :=
  match s.lot k with
  | none => .refuse .state
  | some l =>
    if l.state = .retired then .refuse .state
    else
      match l.proposal with
      | none => .refuse .notFound
      | some q => .done (s.setLot k (some { l with pending := adopted l.pending q, proposal := none })) .ok []

/-! ### The commands -/

/-- DEFINE_LOT (R104). -/
def execDefineLot (p : Port) (s : State) : Host.Outcome State Fault Refusal :=
  .next (runCommand .defineLot p s parseDefineLot (fun a => some (.lot a.slot)) defineLotAct)

/-- MAKE_CURRENT (R105). -/
def execMakeCurrent (p : Port) (s : State) : Host.Outcome State Fault Refusal :=
  .next (runCommand .makeCurrent p s (parseIndex 16) (fun k => some (.lot k)) (makeCurrentAct p))

/-- RETIRE_LOT (R107). -/
def execRetireLot (p : Port) (s : State) : Host.Outcome State Fault Refusal :=
  .next (runCommand .retireLot p s (parseIndex 16) (fun k => some (.lot k)) retireLotAct)

/-- CLEAR_LOT (R108). -/
def execClearLot (p : Port) (s : State) : Host.Outcome State Fault Refusal :=
  .next (runCommand .clearLot p s (parseIndex 16) (fun k => some (.lot k)) clearLotAct)

/-- WRITE_CORRECTION (R110). -/
def execWriteCorrection (p : Port) (s : State) : Host.Outcome State Fault Refusal :=
  .next (runCommand .writeCorrection p s parseCorrection (fun a => some (.lot a.1))
    fun a => writeCorrectionAct a.1 a.2.1 a.2.2)

/-- ADOPT_PROPOSAL (R114). -/
def execAdoptProposal (p : Port) (s : State) : Host.Outcome State Fault Refusal :=
  .next (runCommand .adoptProposal p s (parseIndex 16) (fun k => some (.lot k)) adoptProposalAct)

end Sys2Proof.Machine
end

