-- ==== Sys2Proof/Machine/Ports.lean ====
section
/-! DEFINITION. Selections of the management ports (09 R155 to R157): the port state byte, command frames and
responses. -/
namespace Sys2Proof.Machine

/-! ### The port state byte (R155, R182) -/

/-- The port state: NOT-READY, READY or NO-RESPONSE. -/
def PortUnit.stateNow (u : PortUnit) : PortState :=
  if u.executing.isSome then .notReady else if u.response.isSome then .ready else .noResponse

/-- The port state bytes. -/
def PortState.code : PortState → Byte
  | .noResponse => 0xE0#8
  | .notReady => 0xE1#8
  | .ready => 0xE2#8

/-- A status code (R182). -/
def Status.code : Status → Byte
  | .ok => 0x00#8
  | .badFrame => 0x01#8
  | .unknown => 0x02#8
  | .badParam => 0x03#8
  | .range => 0x04#8
  | .state => 0x05#8
  | .held => 0x06#8
  | .notHeld => 0x07#8
  | .holdFull => 0x08#8
  | .stale => 0x09#8
  | .locked => 0x0A#8
  | .busy => 0x0B#8
  | .storeBusy => 0x0C#8
  | .early => 0x0D#8
  | .full => 0x0E#8
  | .duplicate => 0x0F#8
  | .notFound => 0x10#8
  | .nothing => 0x11#8

/-- A response as it is clocked out: status, echoed code, data length, data, check code (R157). -/
def Response.frame (r : Response) : List Byte :=
  let covered := [r.status.code, r.code] ++ bytes16 r.data.length ++ r.data
  covered ++ checkBytes covered

/-! ### Frames (R156) -/

/-- The command of a frame that passes: its length byte is at most 120, the completed bytes are P + 4, and the check code
over the code byte through the last parameter byte matches (R156). -/
def frameOf (bytes : List Byte) : Option Taken :=
  match bytes with
  | code :: len :: rest =>
    if len.toNat ≤ 120 ∧ rest.length = len.toNat + 2 ∧
        rest.drop len.toNat = checkBytes (code :: len :: rest.take len.toNat) then
      some ⟨code, rest.take len.toNat⟩
    else none
  | _ => none

/-- A port that takes a frame or refuses it BAD-FRAME, the waiting response discarded; the first byte is echoed
(R156). -/
def PortUnit.judge (u : PortUnit) (bytes : List Byte) : PortUnit :=
  match frameOf bytes with
  | some t => { u with executing := some t, response := none }
  | none => { u with response := some ⟨.badFrame, bytes.headD 0#8, []⟩ }

/-- The selection at a port is over, these bytes clocked out. -/
def PortUnit.finish (u : PortUnit) (out : List Byte) : PortUnit := { u with selection := none, shiftedOut := out }

/-- A command selection ends (R156): the state byte in every position; discarded when it was NOT-READY, or when a reset
cut the selection (R170). -/
def endCommand (u : PortUnit) (sel : Selection) (bytes : List Byte) : PortUnit :=
  let done := u.finish (List.replicate bytes.length sel.state.code)
  if sel.discarded then done
  else
    match sel.state with
    | .notReady => done
    | .noResponse => done.judge bytes
    | .ready => done.judge bytes

/-- The first `n` bytes of a frame followed by NO-RESPONSE bytes. -/
def padded (frame : List Byte) (n : Nat) : List Byte :=
  (frame ++ List.replicate (n - frame.length) PortState.noResponse.code).take n

/-- A collect selection in which the response is clocked out ends: it is collected with its last check byte (R157). -/
def PortUnit.collect (u : PortUnit) (frame : List Byte) (n : Nat) : PortUnit :=
  let done := u.finish (PortState.ready.code :: padded frame (n - 1))
  if frame.length ≤ n - 1 then { done with response := none } else done

/-- A collect selection of `n` completed bytes ends (R157). -/
def State.endCollect (s : State) (p : Port) (sel : Selection) (n : Nat) : State :=
  let u := s.port p
  match sel.state with
  | .noResponse => s.setPort p (u.finish (List.replicate n sel.state.code))
  | .notReady => s.setPort p (u.finish (List.replicate n sel.state.code))
  | .ready =>
    if sel.discarded then
      { s.setPort p (u.finish (sel.state.code :: (List.range (n - 1)).map fun i => Config.freeByte (s.freeCount + i))) with
        freeCount := s.freeCount + (n - 1) }
    else
      match u.response with
      | some r => s.setPort p (u.collect r.frame n)
      | none => s.setPort p (u.collect [] n)

/-- The end of a selection of `n` completed bytes whose kind the first byte decides (R155). -/
def State.endSelection (s : State) (p : Port) (collect : Bool) (bytes : List Byte) (n : Nat) : State :=
  match (s.port p).selection with
  | none => s
  | some sel =>
    if n = 0 then s.setPort p ((s.port p).finish [])
    else if collect then s.endCollect p sel n
    else s.setPort p (endCommand (s.port p) sel bytes)

/-! ### The rows -/

/-- SELECTION_BEGINS (R155): the port state byte is fixed. -/
def execSelectionBegins (p : Port) (s : State) : Host.Outcome State Fault Refusal :=
  .next (
    match (s.port p).selection with
    | some _ => s
    | none => s.setPort p { s.port p with selection := some ⟨(s.port p).stateNow, false⟩ })

/-- COMMAND_SELECTION (R156); a first byte equal to COLLECT makes it a collect selection (R155). -/
def execCommandSelection (p : Port) (bytes : List Byte) (s : State) : Host.Outcome State Fault Refusal :=
  .next (s.endSelection p (decide (bytes.head? = some Config.collectByte)) bytes bytes.length)

/-- COLLECT_SELECTION (R157). -/
def execCollectSelection (p : Port) (n : Nat) (s : State) : Host.Outcome State Fault Refusal :=
  .next (s.endSelection p true [] n)

/-- UNKNOWN_COMMAND (step 1 of R159). -/
def execUnknownCommand (p : Port) (s : State) : Host.Outcome State Fault Refusal :=
  .next (
    match (s.port p).executing with
    | none => s
    | some t => if knownCode t.code then s else s.answer p t.code .unknown [])

end Sys2Proof.Machine
end

