-- ==== Sys2Proof/Machine/Records.lean ====
section
/-! DEFINITION. The read commands and the layouts of the records they return (12 R183): one presence byte before an
optional field, an absent field's bytes sent as zero (log 17). -/
namespace Sys2Proof.Machine

/-! ### Field layouts (R183) -/

/-- An optional field of `width` bytes (R183). -/
def optField (width : Nat) (o : Option (List Byte)) : List Byte :=
  match o with
  | none => 0#8 :: List.replicate width 0#8
  | some bs => 1#8 :: bs

/-- The concatenated layouts of a table's items. -/
def eachOf {α : Type} {n : Nat} (f : α → List Byte) (t : Table α n) : List Byte := t.cells.flatMap f

/-- A mark's code (R183). -/
def Mark.code : Mark → Byte
  | .unmarked => 0#8
  | .bright => 1#8
  | .opaqued => 2#8

/-- A density with its patch mark (R183). -/
def Reading.bytes (r : Reading) : List Byte := bytes16 r.density ++ [r.mark.code]

/-- A verdict's code (R183). -/
def Verdict.code : Verdict → Byte
  | .inside => 0#8
  | .warnHigh => 1#8
  | .actionHigh => 2#8
  | .warnLow => 3#8
  | .actionLow => 4#8

/-- A direction HIGH or LOW, or NONE (R183). -/
def sideCode : Option Side → Byte
  | none => 0#8
  | some .high => 1#8
  | some .low => 2#8

/-- A run direction's code (R183). -/
def RunDir.code : RunDir → Byte
  | .flat => 0#8
  | .positive => 1#8
  | .negative => 2#8

/-- A slope direction's code (R183). -/
def SlopeDir.code : SlopeDir → Byte
  | .flat => 0#8
  | .up => 1#8
  | .down => 2#8

/-- The code of a line's state, UNUSED for no context (R63, R183). -/
def lineStateCode : Option LineState → Byte
  | none => 0#8
  | some .enrolled => 1#8
  | some .active => 2#8
  | some .overdue => 3#8
  | some .suspended => 4#8

/-- The code of a point's state (R72, R183). -/
def PointState.code : PointState → Byte
  | .provisional => 0#8
  | .final _ _ _ => 1#8
  | .void => 2#8

/-- The code of a slot's state, EMPTY for no lot (R101, R183, R184). -/
def lotStateCode : Option LotState → Byte
  | none => 0#8
  | some .defined => 1#8
  | some .current => 2#8
  | some (.retiring _) => 3#8
  | some .retired => 4#8

/-- A slot's countdown: 0 in every state but RETIRING (R101). -/
def LotState.countdown : LotState → Nat
  | .defined => 0
  | .current => 0
  | .retiring k => k
  | .retired => 0

/-- A port's code: MP0 0, MP1 1. R183 gives it for a close cause; that the owner of a hold record has the same code is a
DESIGN CHOICE, unsafe (log 17). -/
def portCode : Port → Byte
  | .mp0 => 0#8
  | .mp1 => 1#8

/-- A set of values, bit v for value v, in two bytes (log 17). -/
def valueSet (t : Table Bool 12) : List Byte :=
  bytes16 ((List.finRange 12).foldl (fun n v => if t.get v then n + 2 ^ v.val else n) 0)

/-- An optional waiting kind. -/
def waitingBytes (w : Option AlertKind) : List Byte := optField 1 (w.map fun k => [byte k.code])

/-! ### READ-LINE (R78) -/

/-- The newest point of a ring, which stands last. -/
def newest (ring : List Point) : Option Point := ring.getLast?

/-- The twelve values' and the line level's waiting kinds of a line, all absent when UNUSED. -/
def lineWaiting (o : Option LineCtx) : Table (Option AlertKind) 13 :=
  match o with
  | none => Table.fill 13 none
  | some c => c.waiting

/-- The data of READ-LINE (R78). The day and the state of the newest point have one presence byte each: DESIGN CHOICE,
unsafe (log 17). -/
def lineRecord (o : Option LineCtx) : List Byte :=
  let ring := (o.map LineCtx.ring).getD []
  [lineStateCode (o.map LineCtx.state)] ++
  optField 2 (o.map fun c => bytes16 c.lab) ++
  optField 1 (o.map fun c => [c.kind.code]) ++
  optField 1 (o.map fun c => [byte c.aim.val]) ++
  [(o.map LineCtx.epoch).getD 0#8, byte ((o.map LineCtx.epochPoints).getD 0), byte ((o.map LineCtx.missed).getD 0),
    byte ring.length] ++
  optField 2 ((newest ring).map fun q => bytes16 q.day) ++
  optField 1 ((newest ring).map fun q => [q.state.code]) ++
  eachOf waitingBytes (lineWaiting o)

/-- READ-LINE (R78). -/
def readLineAct (n : Fin 96) (s : State) : Answer := .done s .ok (lineRecord (s.line n))

/-! ### READ-POINT (R76) -/

/-- The point at an age: age 0 is the newest (R71). -/
def pointAt (ring : List Point) (age : Nat) : Option Point := ring.reverse[age]?

/-- The layout of a first reading (R72). -/
def FirstReading.bytes (f : FirstReading) : List Byte := eachOf Reading.bytes f.readings ++ eachOf signed16 f.values

/-- The layout of a crossover part (R72). -/
def CrossPart.bytes (x : CrossPart) : List Byte :=
  bytes32 x.code ++ [byte x.slot.val] ++ eachOf Reading.bytes x.readings ++ eachOf signed16 x.values ++
  eachOf signed16 x.deviations ++ eachOf signed16 x.differences

/-- The residuals of a FINAL point (R72). -/
def PointState.residuals : PointState → Option (Table Int 12)
  | .provisional => none
  | .final r _ _ => some r
  | .void => none

/-- The final verdicts of a FINAL point (R72). -/
def PointState.finals : PointState → Option (Table Verdict 12)
  | .provisional => none
  | .final _ v _ => some v
  | .void => none

/-- The lot-attributed set, empty outside FINAL (R72). -/
def PointState.attributed : PointState → Table Bool 12
  | .provisional => Table.fill 12 false
  | .final _ _ a => a
  | .void => Table.fill 12 false

/-- The data of READ-POINT: every field of R72 in its order. That the residuals and the final verdicts have one presence
byte each, and not one for the pair, is a DESIGN CHOICE, unsafe (log 17). -/
def Point.bytes (q : Point) : List Byte :=
  bytes16 q.day ++ [q.state.code, byte q.head.val] ++ bytes32 q.code ++
  [byte q.slot.val, q.epoch, flagByte q.settling, flagByte q.doubtful, byte q.reruns] ++
  eachOf Reading.bytes q.readings ++ eachOf signed16 q.values ++ eachOf signed16 q.deviations ++
  eachOf (fun v => [Verdict.code v]) q.verdicts ++
  optField 60 (q.first.map FirstReading.bytes) ++
  optField 113 (q.cross.map CrossPart.bytes) ++
  optField 24 (q.state.residuals.map (eachOf signed16)) ++
  optField 12 (q.state.finals.map (eachOf fun v => [Verdict.code v])) ++
  valueSet q.state.attributed

/-- READ-POINT (R76). -/
def readPointAct (n : Fin 96) (age : Nat) (s : State) : Answer :=
  match s.line n with
  | none => .refuse .state
  | some c =>
    match pointAt c.ring age with
    | none => .refuse .notFound
    | some q => .done s .ok q.bytes

/-! ### READ-DRIFT (R77) -/

/-- Whether a point is FINAL. -/
def PointState.isFinal : PointState → Bool
  | .provisional => false
  | .final _ _ _ => true
  | .void => false

/-- The newest FINAL point (R77). -/
def newestFinal (ring : List Point) : Option Point := ring.reverse.find? fun q => q.state.isFinal

/-- The layout of a trend filter; its last residual is optional (R63, R84, R183). That READ-DRIFT sends the filters one by
one, and not field by field, is a DESIGN CHOICE, unsafe (log 17). -/
def Filter.bytes (f : Filter) : List Byte :=
  [f.run.code, byte f.runCount, f.slope.code, byte f.slopeCount] ++ optField 2 (f.last.map signed16)

/-- The filters and the warn memory of a line (R77). -/
def LineCtx.driftBytes (c : LineCtx) : List Byte :=
  eachOf Filter.bytes c.filters ++ eachOf (fun w => optField 1 (w.map fun v => [Verdict.code v])) c.warn

/-- The fields of the newest FINAL point that READ-DRIFT returns (R77). That its residuals and final verdicts, which R72
marks optional, stand here without presence bytes is a DESIGN CHOICE, unsafe (log 17). -/
def Point.driftBytes (q : Point) : List Byte :=
  bytes16 q.day ++ bytes32 q.code ++ [byte q.slot.val] ++
  eachOf signed16 (q.state.residuals.getD (Table.fill 12 0)) ++
  eachOf (fun v => [Verdict.code v]) (q.state.finals.getD (Table.fill 12 .inside)) ++ valueSet q.state.attributed

/-- READ-DRIFT (R77). -/
def readDriftAct (n : Fin 96) (s : State) : Answer :=
  match s.line n with
  | none => .refuse .state
  | some c =>
    match newestFinal c.ring with
    | none => .done s .nothing c.driftBytes
    | some q => .done s .ok (q.driftBytes ++ c.driftBytes)

/-! ### READ-AIMS (R99) -/

/-- The layout of one value's five fields. -/
def ValueAim.bytes (a : ValueAim) : List Byte :=
  signed16 a.offset ++ signed16 a.la ++ signed16 a.lw ++ signed16 a.uw ++ signed16 a.ua

/-- The layout of a part, value by value, as the image has it (R88, section 12.5). That READ-AIMS sends it so, and not
field by field, is a DESIGN CHOICE, unsafe (log 17). -/
def AimPart.bytes (q : AimPart) : List Byte :=
  eachOf ValueAim.bytes q.aims ++ [byte q.run, byte q.slope, byte q.settling]

/-- READ-AIMS (R99). -/
def readAimsAct (k : Fin 16) (s : State) : Answer :=
  let a := s.aim k
  .done s .ok
    ([a.kind.code, flagByte a.preload, flagByte (decide (a.active ≠ a.pending))] ++ a.active.bytes ++ a.pending.bytes ++
      [byte (s.linesNaming k)])

/-! ### READ-LOT (R115) -/

/-- The layout of a shift entry: direction, magnitude, participant count, agreeing count (R111). That its magnitude,
absent with NONE (R101), has a presence byte of its own in READ-LOT is a DESIGN CHOICE, unsafe (log 17): R115 names
presence marks for the record, the proposal and the proposal's entries alone. -/
def ShiftEntry.bytes (e : ShiftEntry) : List Byte :=
  [sideCode (e.shift.map Shift.side)] ++ optField 2 (e.shift.map fun x => signed16 x.magnitude) ++
  [byte e.participants, byte e.agreeing]

/-- The layout of a last shift record (R111). That its entries stand value by value, and not field by field, is a DESIGN
CHOICE, unsafe (log 17). -/
def ShiftRecord.bytes (r : ShiftRecord) : List Byte := bytes16 r.day ++ eachOf ShiftEntry.bytes r.entries

/-- The layout of a proposal (R113). -/
def proposalBytes (q : Table (Option Int) 12) : List Byte := eachOf (fun x => optField 2 (x.map signed16)) q

/-- The data of READ-LOT (R115); an EMPTY slot has the values of R101. -/
def lotRecord (o : Option Lot) : List Byte :=
  [lotStateCode (o.map Lot.state)] ++
  optField 4 (o.map fun l => bytes32 l.code) ++
  optField 1 (o.map fun l => [l.kind.code]) ++
  eachOf signed16 ((o.map Lot.refs).getD (Table.fill 12 0)) ++
  eachOf signed16 ((o.map Lot.active).getD (Table.fill 12 0)) ++
  eachOf signed16 ((o.map Lot.pending).getD (Table.fill 12 0)) ++
  [flagByte (o.any fun l => decide (l.active ≠ l.pending)), byte ((o.map fun l => l.state.countdown).getD 0)] ++
  optField 74 ((o.bind Lot.shift).map ShiftRecord.bytes) ++
  optField 36 ((o.bind Lot.proposal).map proposalBytes) ++
  eachOf waitingBytes ((o.map Lot.waiting).getD (Table.fill 12 none))

/-- READ-LOT (R115). -/
def readLotAct (k : Fin 16) (s : State) : Answer := .done s .ok (lotRecord (s.lot k))

/-! ### READ-DAY (R137) -/

/-- The code of a day state (section 7.3, R183). -/
def DayState.code : DayState → Byte
  | .dayOpen => 0#8
  | .draining => 1#8
  | .closing _ => 2#8
  | .transferWait => 3#8

/-- The code of a close stage (R183). -/
def ClosePos.code : ClosePos → Byte
  | .consensus _ => 0#8
  | .finalisation _ => 1#8
  | .overdue _ => 2#8
  | .countdown _ => 3#8
  | .transferAim _ => 4#8
  | .transferLot _ => 4#8
  | .summary => 5#8

/-- The close stage: absent in OPEN and DRAINING, TRANSFER in TRANSFER-WAIT (R127). -/
def DayState.stage : DayState → Option Byte
  | .dayOpen => none
  | .draining => none
  | .closing pos => some pos.code
  | .transferWait => some 4#8

/-- The code of a close cause (R183). -/
def CloseCause.code : CloseCause → Byte
  | .port p => portCode p
  | .edge => 2#8
  | .expiry => 3#8

/-- The code of a day mode (section 12.3). -/
def DayMode.code : DayMode → Byte
  | .alone => 0#8
  | .leader => 1#8
  | .follower => 2#8

/-- The nine bytes of the desk settings, as WRITE-DESK gives them (R182). -/
def Desk.bytes (d : Desk) : List Byte :=
  bytes16 d.length ++
  [byte d.window, d.mode.code, byte d.quorum, byte d.share, byte d.tolerance, byte d.overdueLimit, byte d.crossoverDays]

/-- The layout of a close summary (R135). -/
def Summary.bytes (x : Summary) : List Byte :=
  bytes16 x.close.day ++
  [x.close.cause.code, byte x.tally.points, byte x.tally.overdue, byte x.tally.shifts, byte x.tally.done,
    byte x.tally.deferred]

/-- The data of READ-DAY (R137). That the close stage, absent outside CLOSING, has a presence byte is a DESIGN CHOICE,
unsafe (log 17). -/
def State.dayRecord (s : State) : List Byte :=
  bytes16 s.day.number ++ [s.day.state.code] ++ optField 1 (s.day.state.stage.map fun c => [c]) ++
  bytes16 s.day.timer ++ [flagByte s.day.firstClose] ++
  optField 2 (s.day.last.map fun x => bytes16 x.day) ++ optField 1 (s.day.last.map fun x => [x.cause.code]) ++
  [flagByte s.day.missedEdge, byte s.drain, byte s.queue.length] ++ s.day.desk.bytes ++
  optField 8 (s.day.summary.map Summary.bytes)

/-- READ-DAY (R137): the missed-edge flag is cleared once it has been read. -/
def readDayAct (s : State) : Answer := .done (s.setDay { s.day with missedEdge := false }) .ok s.dayRecord

/-! ### READ-HOLDS (R167) -/

/-- The item kind and index of a hold (R182). -/
def itemBytes : Item → List Byte
  | .line n => [1#8, byte n.val]
  | .aim k => [2#8, byte k.val]
  | .lot k => [3#8, byte k.val]
  | .desk => [4#8, 0#8]

/-- The layout of a hold record: item kind, index, owner, lease (log 17). -/
def Hold.bytes (h : Hold) : List Byte := itemBytes h.item ++ [portCode h.owner, byte h.lease]

/-- The data of READ-HOLDS: eight records, those beyond the count absent (R167, R183). The records stand in the order of
their granting, oldest first: DESIGN CHOICE, unsafe (log 17). -/
def State.holdsRecord (s : State) : List Byte :=
  ((List.finRange 8).flatMap fun i => optField 4 (s.holds[i.val]?.map Hold.bytes)) ++
  [byte s.holds.length, byte s.level]

/-- READ-HOLDS (R167). -/
def readHoldsAct (s : State) : Answer := .done s .ok s.holdsRecord

/-! ### READ-READER (R37, R8) -/

/-- The assembler state's code: OFF, HUNT, RECEIVING, HELD, LOOPBACK (R183). -/
def Reader.stateCode (r : Reader) : Byte :=
  if !r.enable then 0#8
  else if r.loopback then 4#8
  else
    match r.phase with
    | .hunt => 1#8
    | .receiving _ => 2#8
    | .held _ => 3#8

/-- A calibration state's code: NONE, VALID, SPENT (R2). -/
def Calibration.code : Calibration → Byte
  | .uncalibrated => 0#8
  | .valid _ _ _ => 1#8
  | .spent _ _ => 2#8

/-- Strips remaining (R2). -/
def Calibration.remaining : Calibration → Nat
  | .uncalibrated => 0
  | .valid _ _ k => k
  | .spent _ _ => 0

/-- The calibration gate, absent in NONE (R2). -/
def Calibration.gate : Calibration → Option Nat
  | .uncalibrated => none
  | .valid _ g _ => some g
  | .spent _ g => some g

/-- An open count, absent in NONE (R2). -/
def Calibration.openCount (c : Calibration) (i : Fin 3) : Option Nat :=
  match c with
  | .uncalibrated => none
  | .valid o _ _ => some (o.get i)
  | .spent o _ => some (o.get i)

/-- The calibration context (R8). -/
def Calibration.bytes (c : Calibration) : List Byte :=
  [c.code, byte c.remaining] ++ optField 2 (c.gate.map bytes16) ++
  (List.finRange 3).flatMap fun i => optField 2 ((c.openCount i).map bytes16)

/-- An origin's code (R181). -/
def Origin.code : Origin → Byte
  | .frame => 0#8
  | .evaluation => 1#8

/-- The fault record (R32). That its origin and its day, absent until the first fault, have a presence byte each, as the
lab id has, is a DESIGN CHOICE, unsafe (log 17). -/
def FaultRecord.bytes (f : FaultRecord) : List Byte :=
  [(f.code.map FaultCode.code).getD 0#8] ++ optField 1 (f.origin.map fun o => [o.code]) ++
  optField 2 (f.lab.map bytes16) ++ optField 2 (f.day.map bytes16) ++ [byte f.count]

/-- A test result's code (R183). -/
def TestResult.code : TestResult → Byte
  | .noTest => 0#8
  | .running => 1#8
  | .pass => 2#8
  | .crc => 3#8
  | .length => 4#8
  | .kind => 5#8
  | .lineError => 6#8
  | .timeout => 7#8
  | .aborted => 8#8

/-- The data of READ-READER (R37). -/
def Reader.record (r : Reader) : List Byte :=
  [flagByte r.enable, r.rate.code, flagByte r.loopback, byte r.calLife, r.stateCode, byte r.fifo.length,
    flagByte r.headReady, flagByte r.delta] ++ r.cal.bytes ++ r.fault.bytes ++ [r.test.code]

/-- READ-READER (R37): the delta flag is cleared once it has been read. -/
def readReaderAct (rl : Fin 4) (s : State) : Answer :=
  .done (s.setReader rl { s.reader rl with delta := false }) .ok (s.reader rl).record

/-! ### READ-STORE (R174) -/

/-- The store state's code: IDLE, LOADING, SAVING (R183). -/
def Store.code (t : Store) : Byte :=
  match t.phase with
  | .idle => 0#8
  | .loadingHeader => 1#8
  | .loadingBody _ => 1#8
  | .saving _ => 2#8

/-- A last outcome's code (R183). -/
def LastOutcome.code : LastOutcome → Byte
  | .noOutcome => 0#8
  | .loaded => 1#8
  | .loadFailed _ => 2#8
  | .saved => 3#8
  | .saveFailed _ => 4#8

/-- The cause of a failed load or save (R174). -/
def LastOutcome.cause : LastOutcome → Option StoreCause
  | .noOutcome => none
  | .loaded => none
  | .loadFailed c => some c
  | .saved => none
  | .saveFailed c => some c

/-- A cause's code (R183). -/
def StoreCause.code : StoreCause → Byte
  | .noAnswer => 0#8
  | .badHeader => 1#8
  | .badCrc => 2#8
  | .badContent => 3#8
  | .writeTimeout => 4#8

/-- The 7-bit device address: 0b1010 and the straps (R172, section 12.5). -/
def Store.address (t : Store) : Byte := 0x50#8 ||| t.straps.zeroExtend 8

/-- The data of READ-STORE (R174). That the cause has a presence byte, absent with an outcome that carries none, and that
the device address stands in the low seven bits of its byte, is a DESIGN CHOICE, unsafe (log 17). -/
def Store.record (t : Store) : List Byte :=
  [t.code, t.outcome.code] ++ optField 1 (t.outcome.cause.map fun c => [c.code]) ++ [byte t.writes, t.address]

/-- READ-STORE (R174). -/
def readStoreAct (s : State) : Answer := .done s .ok s.store.record

/-! ### The commands -/

/-- READ_LINE (R78). -/
def execReadLine (p : Port) (s : State) : Host.Outcome State Fault Refusal :=
  .next (runCommand .readLine p s (parseIndex 96) noItem readLineAct)

/-- READ_POINT (R76). -/
def execReadPoint (p : Port) (s : State) : Host.Outcome State Fault Refusal :=
  .next (runCommand .readPoint p s parsePoint noItem fun a => readPointAct a.1 a.2)

/-- READ_DRIFT (R77). -/
def execReadDrift (p : Port) (s : State) : Host.Outcome State Fault Refusal :=
  .next (runCommand .readDrift p s (parseIndex 96) noItem readDriftAct)

/-- READ_AIMS (R99). -/
def execReadAims (p : Port) (s : State) : Host.Outcome State Fault Refusal :=
  .next (runCommand .readAims p s (parseIndex 16) noItem readAimsAct)

/-- READ_LOT (R115). -/
def execReadLot (p : Port) (s : State) : Host.Outcome State Fault Refusal :=
  .next (runCommand .readLot p s (parseIndex 16) noItem readLotAct)

/-- READ_DAY (R137). -/
def execReadDay (p : Port) (s : State) : Host.Outcome State Fault Refusal :=
  .next (runCommand .readDay p s parseNone noItem fun _ => readDayAct)

/-- READ_HOLDS (R167). -/
def execReadHolds (p : Port) (s : State) : Host.Outcome State Fault Refusal :=
  .next (runCommand .readHolds p s parseNone noItem fun _ => readHoldsAct)

/-- READ_READER (R37). -/
def execReadReader (p : Port) (s : State) : Host.Outcome State Fault Refusal :=
  .next (runCommand .readReader p s (parseIndex 4) noItem readReaderAct)

/-- READ_STORE (R174). -/
def execReadStore (p : Port) (s : State) : Host.Outcome State Fault Refusal :=
  .next (runCommand .readStore p s parseNone noItem fun _ => readStoreAct)

end Sys2Proof.Machine
end

