-- ==== Sys2Proof/Machine/Image.lean ====
section
/-! DEFINITION. The configuration image (10 R173, 12 section 12.5, R184): the body a save writes, the pages, the header,
and the content check of a load (R175). -/
namespace Sys2Proof.Machine

/-! ### Constants (section 12.5) -/

/-- The marker of a complete image. -/
def marker : Nat := 0x5C3A
/-- The format number the part writes. -/
def formatNumber : Nat := 1
/-- The body length of that format. -/
def bodyLength : Nat := 3856
/-- The address of the body. -/
def bodyStart : Nat := 16
/-- The page writes of a complete save (R184). -/
def saveWrites : Nat := 122
/-- The bytes of the entries of UNUSED lines that the manual gives no value to lie in a window of this length (log 20). -/
def lineSection : Nat := 768

/-! ### The body a save writes (R177, R184) -/

/-- The desk section: nine bytes and seven fill bytes. -/
def deskEntry (d : Desk) : List Byte := d.bytes ++ List.replicate 7 0#8

/-- An aim set's entry; a saved image marks every set carried (R173). -/
def aimEntry (a : AimSet) : List Byte :=
  [1#8, a.kind.code, flagByte a.preload] ++ a.active.bytes ++ [0#8, 0#8]

/-- A slot's entry; an EMPTY slot has code and kind 0 (R184) and the values of R101. -/
def lotEntry (o : Option Lot) : List Byte :=
  [lotStateCode (o.map Lot.state)] ++ bytes32 ((o.map Lot.code).getD 0) ++ [(o.map fun l => l.kind.code).getD 0#8] ++
  eachOf signed16 ((o.map Lot.refs).getD (Table.fill 12 0)) ++
  eachOf signed16 ((o.map Lot.active).getD (Table.fill 12 0)) ++
  [byte ((o.map fun l => l.state.countdown).getD 0)] ++ List.replicate 9 0#8

/-- A line's entry. The key and the aim set number of an UNUSED line are absent (R63), and the bytes that stand for them
are free values from index `free` (log 20). -/
def lineEntry (o : Option LineCtx) (free : Nat) : List Byte :=
  match o with
  | some c =>
    [1#8] ++ bytes16 c.lab ++ [c.kind.code, byte c.aim.val, flagByte (decide (c.state = .suspended)), 0#8, 0#8]
  | none =>
    [0#8, Config.freeByte free, Config.freeByte (free + 1), Config.freeByte (free + 2), Config.freeByte (free + 3),
      0#8, 0#8, 0#8]

/-- The body of the image of the tables as they stand (R173, R177). -/
def State.body (s : State) : List Byte :=
  deskEntry s.day.desk ++ eachOf aimEntry s.aims ++ eachOf lotEntry s.lots ++
  (List.finRange 96).flatMap fun n => lineEntry (s.line n) (s.freeCount + 8 * n.val)

/-! ### Header and pages (R173, R178) -/

/-- The header with a marker field (section 12.5). -/
def header (mark : Nat) (body : List Byte) : List Byte :=
  bytes16 mark ++ bytes16 formatNumber ++ bytes16 bodyLength ++ checkBytes body ++ List.replicate 8 0#8

/-- The address and the bytes of the page write that follows `writes` completed ones (R178). -/
def pageWrite (body : List Byte) (writes : Nat) : Nat × List Byte :=
  if writes = 0 then (0, header 0 body ++ body.take 16)
  else if writes < saveWrites - 1 then (32 * writes, (body.drop (32 * writes - bodyStart)).take 32)
  else (0, header marker body ++ body.take 16)

/-- The memory with the page of a page write written (R172). -/
def writePage (m : Memory) (body : List Byte) (writes : Nat) : Memory :=
  Memory.writeBytes m (pageWrite body writes).1 (pageWrite body writes).2

/-- The header check: the marker, the format number and the body length are right, and the check code (R175). -/
def headerCheck (bs : List Byte) : Option Word16 :=
  match bs with
  | m1 :: m2 :: f1 :: f2 :: l1 :: l2 :: c1 :: c2 :: _ =>
    if nat16 m1 m2 = marker ∧ nat16 f1 f2 = formatNumber ∧ nat16 l1 l2 = bodyLength then
      some (BitVec.ofNat 16 (nat16 c1 c2))
    else none
  | _ => none

/-! ### The content check (R175) -/

/-- What an image holds: a set that is not carried is `none`. -/
structure Image where
  desk : Desk
  aims : Table (Option AimSet) 16
  lots : Table (Option Lot) 16
  lines : Table (Option LineCtx) 96
  deriving DecidableEq, Repr

/-- Entry `i` of a section of entries of `len` bytes at offset `off` of the body. -/
def entryAt (body : List Byte) (off len i : Nat) : List Byte := (body.drop (off + len * i)).take len

/-- A table whose items all passed their check. -/
def allPass {α : Type} {n : Nat} (f : Fin n → Option α) : Option (Table α n) :=
  if h : ∀ i, (f i).isSome = true then some (Table.ofFn fun i => (f i).get (h i)) else none

/-- The desk entry (R175). -/
def parseDeskEntry (bs : List Byte) : Option Desk :=
  match deskOf (bs.take 9) with
  | none => none
  | some d => if d.inRange then some d else none

/-- Groups of five numbers as aims of values. -/
def valueAims : List Int → List ValueAim
  | o :: a :: b :: c :: d :: rest => ⟨o, a, b, c, d⟩ :: valueAims rest
  | _ => []

/-- A part's fields (section 12.5). -/
def parsePart (bs : List Byte) : Option AimPart :=
  match twelve (valueAims (int16s (bs.take 120))), bs.drop 120 with
  | some aims, r :: l :: c :: _ => some ⟨aims, r.toNat, l.toNat, c.toNat⟩
  | _, _ => none

/-- A carried set, in its ranges and order (R175); its pending part is made equal to the active part (R100). -/
def parseCarried (k m : Byte) (bs : List Byte) : Option AimSet :=
  match kindOf k, flagOf m, parsePart bs with
  | some kind, some preload, some part => if part.valid then some ⟨kind, preload, part, part⟩ else none
  | _, _, _ => none

/-- A set entry: with its carried flag clear the rest is not examined (R175). -/
def parseAimEntry : List Byte → Option (Option AimSet)
  | f :: k :: m :: rest =>
    match flagOf f with
    | none => none
    | some false => some none
    | some true => (parseCarried k m rest).map some
  | _ => none

/-- The state of a slot's code and countdown: RETIRING has 1 to 7 and every other state 0 (R175). -/
def parseLotState (code countdown : Byte) : Option LotState :=
  if code = 1#8 ∧ countdown = 0#8 then some .defined
  else if code = 2#8 ∧ countdown = 0#8 then some .current
  else if code = 3#8 ∧ 1 ≤ countdown.toNat ∧ countdown.toNat ≤ 7 then some (.retiring countdown.toNat)
  else if code = 4#8 ∧ countdown = 0#8 then some .retired
  else none

/-- The fields of a slot that is not EMPTY, in their ranges (R175); its pending corrections are made equal to the active
ones (R116). -/
def parseLotFields (st : LotState) (code : Nat) (k : Byte) (refs active : List Byte) : Option Lot :=
  match kindOf k, twelve (int16s refs), twelve (int16s active) with
  | some kind, some r, some a =>
    if 1 ≤ code ∧ r.cells.all (within (-4000) 4000) ∧ a.cells.all (within (-500) 500) then
      some { state := st, code := code, kind := kind, refs := r, active := a, pending := a, shift := none,
             proposal := none, waiting := Table.fill 12 none }
    else none
  | _, _, _ => none

/-- A slot entry: EMPTY is examined for its state and countdown alone (R175). -/
def parseLotEntry : List Byte → Option (Option Lot)
  | st :: c1 :: c2 :: c3 :: c4 :: k :: rest =>
    match rest.drop 48 with
    | countdown :: _ =>
      if st = 0#8 then (if countdown = 0#8 then some none else none)
      else
        match parseLotState st countdown with
        | none => none
        | some state =>
          (parseLotFields state (nat32 c1 c2 c3 c4) k (rest.take 24) ((rest.drop 24).take 24)).map some
    | [] => none
  | _ => none

/-- An enrolled line's entry (R175), restored as R87 states. -/
def parseEnrolled (l1 l2 k a q : Byte) : Option LineCtx :=
  match kindOf k, indexOf 16 a, flagOf q with
  | some kind, some aim, some suspended =>
    if labOk (nat16 l1 l2) then
      some (LineCtx.fresh (if suspended then .suspended else .enrolled) (nat16 l1 l2) kind aim)
    else none
  | _, _, _ => none

/-- A line entry: with its enrolled flag clear the rest is not examined (R173). -/
def parseLineEntry : List Byte → Option (Option LineCtx)
  | f :: l1 :: l2 :: k :: a :: q :: _ =>
    match flagOf f with
    | none => none
    | some false => some none
    | some true => (parseEnrolled l1 l2 k a q).map some
  | _ => none

/-- The fields of a body, each in its range (the first two points of step 3 of R175). -/
def parseBody (body : List Byte) : Option Image :=
  match parseDeskEntry (entryAt body 0 16 0),
    allPass (fun k : Fin 16 => parseAimEntry (entryAt body 16 128 k.val)),
    allPass (fun k : Fin 16 => parseLotEntry (entryAt body 2064 64 k.val)),
    allPass (fun n : Fin 96 => parseLineEntry (entryAt body 3088 8 n.val)) with
  | some desk, some aims, some lots, some lines => some ⟨desk, aims, lots, lines⟩
  | _, _, _, _ => none

/-- Whether two different items of a table stand in a relation. -/
def clash {α : Type} {n : Nat} (t : Table (Option α) n) (r : α → α → Bool) : Bool :=
  (List.finRange n).any fun i => (List.finRange n).any fun j =>
    decide (i < j) && match t.get i, t.get j with
      | some a, some b => r a b
      | _, _ => false

/-- The kind a set has after the load; a set that is not carried has its default kind, FILM (R175). -/
def Image.aimKind (x : Image) (k : Fin 16) : ProcessKind := ((x.aims.get k).map AimSet.kind).getD .film

/-- An enrolled line names a set of its own kind (R175). -/
def Image.lineBound (x : Image) (o : Option LineCtx) : Bool :=
  o.all fun c => decide (x.aimKind c.aim = c.kind)

/-- The points of step 3 of R175 that concern several entries. -/
def Image.consistent (x : Image) : Bool :=
  !clash x.lines (fun a b => decide (a.lab = b.lab) && decide (a.kind = b.kind)) &&
  !clash x.lots (fun a b => decide (a.state = .current) && decide (b.state = .current) && decide (a.kind = b.kind)) &&
  !clash x.lots (fun a b => decide (a.code = b.code)) &&
  x.lines.cells.all x.lineBound

/-- The image of a body whose content passes (R175). -/
def contentOf (body : List Byte) : Option Image :=
  match parseBody body with
  | none => none
  | some x => if x.consistent then some x else none

/-! ### Restoring (R176) -/

/-- The lab map entries of the enrolled lines (R62, R87). -/
def mapOf (lines : Table (Option LineCtx) 96) : List MapEntry :=
  (List.finRange 96).filterMap fun n => (lines.get n).map fun c => ⟨c.lab, c.kind, n⟩

/-- The tables taken from an image (R176): a set that is not carried keeps its values. -/
def State.restore (s : State) (x : Image) : State :=
  { s with
    day := { s.day with desk := x.desk }
    aims := Table.ofFn fun k => (x.aims.get k).getD (s.aim k)
    lots := x.lots
    lines := x.lines
    labMap := mapOf x.lines }

end Sys2Proof.Machine
end

