-- ==== Sys2Proof/Machine/Store.lean ====
section
/-! DEFINITION. The store interface (10): the reads of a load and its end, the page writes of a save and its end, and
SAVE-IMAGE. -/
namespace Sys2Proof.Machine

/-! ### The I2C transfer in progress (R172) -/

/-- The address byte of a transfer for writing: the device address and a zero bit. -/
def Store.writeAddress (t : Store) : Byte := t.address <<< 1

/-- The address byte of a transfer for reading. -/
def Store.readAddress (t : Store) : Byte := (t.address <<< 1) ||| 1#8

/-- The bytes the part sends on SDA in the transfer in progress: those of a page write while SAVING, and of a
random-address read while LOADING (R172). -/
def Store.sent (t : Store) : List Byte :=
  match t.phase with
  | .idle => []
  | .loadingHeader => [t.writeAddress] ++ bytes16 0 ++ [t.readAddress]
  | .loadingBody _ => [t.writeAddress] ++ bytes16 bodyStart ++ [t.readAddress]
  | .saving body => [t.writeAddress] ++ bytes16 (pageWrite body t.writes).1 ++ (pageWrite body t.writes).2

/-! ### Loading (R175, R176) -/

/-- A transfer of the store ends: it is IDLE with an outcome, and STORE is requested at both ports (R176, R178). -/
def State.endStore (s : State) (o : LastOutcome) : State :=
  (s.setStore { s.store with phase := .idle, outcome := o }).raise .store

/-- The header read completes: the load goes on to the body or fails (step 1 of R175). -/
def State.headerRead (s : State) : State :=
  match headerCheck (s.memory.readBytes 0 16) with
  | none => s.endStore (.loadFailed .badHeader)
  | some c => s.setStore { s.store with phase := .loadingBody c }

/-- The body read completes: it is checked and the load ends (steps 2 and 3 of R175, R176). -/
def State.loadEnd (s : State) (c : Word16) : State :=
  let body := s.memory.readBytes bodyStart bodyLength
  if checkCode body ≠ c then s.endStore (.loadFailed .badCrc)
  else
    match contentOf body with
    | none => s.endStore (.loadFailed .badContent)
    | some x => (s.restore x).endStore .loaded

/-- HEADER_READ_COMPLETE (R175). -/
def execHeaderReadComplete (s : State) : Host.Outcome State Fault Refusal :=
  .next (
    match s.store.phase with
    | .loadingHeader => s.headerRead
    | .loadingBody _ => s
    | .saving _ => s
    | .idle => s)

/-- LOAD_END (R176). -/
def execLoadEnd (s : State) : Host.Outcome State Fault Refusal :=
  .next (
    match s.store.phase with
    | .loadingHeader => s
    | .loadingBody c => s.loadEnd c
    | .saving _ => s
    | .idle => s)

/-! ### Saving (R177, R178) -/

/-- A waiting transfer stage begins its steps (R133). -/
def State.resumeTransfer (s : State) : State :=
  if s.day.state = .transferWait then s.setDay { s.day with state := .closing (.transferAim 0) } else s

/-- The end of a save is one event (R178). -/
def State.endSave (s : State) (o : LastOutcome) : State := (s.endStore o).resumeTransfer

/-- A page is written: the count rises, and the next page write begins or the save ends (R178). -/
def State.pageWritten (s : State) (body : List Byte) : State :=
  let s' := { s with
    memory := writePage s.memory body s.store.writes
    store := { s.store with writes := s.store.writes + 1 } }
  if s.store.writes + 1 < saveWrites then s' else s'.endSave .saved

/-- PAGE_WRITE_COMPLETE (R178). -/
def execPageWriteComplete (s : State) : Host.Outcome State Fault Refusal :=
  .next (
    match s.store.phase with
    | .loadingHeader => s
    | .loadingBody _ => s
    | .saving body => s.pageWritten body
    | .idle => s)

/-- WRITE_TIMEOUT (R172): a page write fails; its page is not written (log 22). -/
def execWriteTimeout (s : State) : Host.Outcome State Fault Refusal :=
  .next (
    match s.store.phase with
    | .loadingHeader => s
    | .loadingBody _ => s
    | .saving _ => s.endSave (.saveFailed .writeTimeout)
    | .idle => s)

/-- NO_ANSWER (R172): the transfer in progress fails. -/
def execNoAnswer (s : State) : Host.Outcome State Fault Refusal :=
  .next (
    match s.store.phase with
    | .loadingHeader => s.endStore (.loadFailed .noAnswer)
    | .loadingBody _ => s.endStore (.loadFailed .noAnswer)
    | .saving _ => s.endSave (.saveFailed .noAnswer)
    | .idle => s)

/-- SAVE-IMAGE (R177). -/
def saveImageAct (s : State) : Answer :=
  if s.day.state = .dayOpen ∧ s.store.phase = .idle then
    .done { s with
      store := { s.store with phase := .saving s.body, writes := 0 }
      freeCount := s.freeCount + lineSection } .ok []
  else .refuse .busy

/-- SAVE_IMAGE (R177). -/
def execSaveImage (p : Port) (s : State) : Host.Outcome State Fault Refusal :=
  .next (runCommand .saveImage p s parseNone noItem fun _ => saveImageAct)

end Sys2Proof.Machine
end

