-- ==== Sys2Proof/Machine/System.lean ====
section
/-! DEFINITION. The resets (09 R169 to R171, 10 R179) and SET-LOCK (R168). -/
namespace Sys2Proof.Machine

/-! ### Resetting the whole part -/

/-- The serial memory after a reset. A reset that cuts a save leaves the page in flight written exactly when its stop
condition had been sent, which is a free value (R179, log 19). -/
def State.memoryAfterCut (s : State) : Memory :=
  match s.store.phase with
  | .loadingHeader => s.memory
  | .loadingBody _ => s.memory
  | .saving body =>
    if Config.freeStopSent s.freeCount then writePage s.memory body s.store.writes else s.memory
  | .idle => s.memory

/-- A port after the reset of the part: a selection in progress is discarded when it ends (R170, R171). -/
def PortUnit.afterReset (u : PortUnit) : PortUnit :=
  { PortUnit.reset with
    selection := u.selection.map fun x => { x with discarded := true }
    shiftedOut := u.shiftedOut }

/-- The reader lines after a reset, HEAD-READY sampled afresh: bit k of `ready` for RLk (R20, R41). -/
def readersAfterReset (ready : BitVec 4) : Table Reader 4 := Table.ofFn fun k => Reader.reset (ready.getLsbD k.val)

/-- Every block takes its values after reset, at a protection level, and loading begins (R170, R171; R41, R44, R87, R100,
R116, R138, R149, R154, R174). The serial memory and the commands still waiting stand outside the part. -/
def State.resetWhole (s : State) (ready : BitVec 4) (straps : BitVec 3) (level : Nat) : State :=
  { readers := readersAfterReset ready, heldOrder := [], queue := [], drain := 0, labMap := [],
    lines := Table.fill 96 none, aims := Table.fill 16 AimSet.default, lots := Table.fill 16 none,
    day := DayUnit.reset, alerts := [], serials := Table.fill 32 0#8,
    mp0 := s.mp0.afterReset, mp1 := s.mp1.afterReset, holds := [], level := level, store := Store.reset straps,
    memory := s.memoryAfterCut, freeCount := s.freeCount + 1, pending := s.pending }

/-- POWER_ON_RESET (R168, R171): the protection level becomes 0. -/
def execPowerOnReset (ready : BitVec 4) (straps : BitVec 3) (s : State) : Host.Outcome State Fault Refusal :=
  .next (s.resetWhole ready straps 0)

/-- RESTART (R170): after the common refusals the part is reset, its protection level kept, and no response is
written. -/
def execRestart (p : Port) (ready : BitVec 4) (straps : BitVec 3) (s : State) : Host.Outcome State Fault Refusal :=
  .next (
    match prepare .restart p s parseNone noItem with
    | .notNow => s
    | .refused code st => s.answer p code st []
    | .go _ _ => s.resetWhole ready straps s.level)

/-! ### Port reset (R169) -/

/-- A port's settings and flags at their reset values, its selection left as it stands (R154, R169). -/
def PortUnit.cleared (u : PortUnit) : PortUnit :=
  { PortUnit.reset with selection := u.selection, shiftedOut := u.shiftedOut }

/-- A port joins the pending set of every entry (R149). -/
def claimAll (p : Port) (es : List AlertEntry) : List AlertEntry := es.map fun e => { e with ports := e.ports.add p }

/-- RESET-PORT (R169). -/
def resetPortAct (p : Port) (s : State) : Answer :=
  .done
    ({ s with
        holds := s.holds.filter fun h => h.owner != p
        alerts := claimAll p s.alerts }.setPort p (s.port p).cleared) .ok []

/-- RESET_PORT (R169). -/
def execResetPort (p : Port) (s : State) : Host.Outcome State Fault Refusal :=
  .next (runCommand .resetPort p s parseNone noItem fun _ => resetPortAct p)

/-! ### Protection (R168) -/

/-- SET-LOCK (R168): a raise also copies every set's active part into its pending part (R96). -/
def setLockAct (level : Nat) (s : State) : Answer :=
  if level ≤ s.level then .refuse .locked
  else .done { s with level := level, aims := s.aims.map AimSet.discard } .ok []

/-- SET_LOCK (R168). -/
def execSetLock (p : Port) (s : State) : Host.Outcome State Fault Refusal :=
  .next (runCommand .setLock p s parseLock noItem setLockAct)

end Sys2Proof.Machine
end

