-- ==== Sys2Proof/Machine/Dispatch.lean ====
section
/-! DEFINITION. The meaning of every command: one arm for each row of spec/opcode_table.json. -/
namespace Sys2Proof.Machine

/-- The meaning of a command. -/
def exec (i : Instr) (s : State) : Host.Outcome State Fault Refusal :=
  match i with
  | .powerOnReset ready straps => Sys2Proof.Machine.execPowerOnReset ready straps s
  | .characterComplete rl data parity stop => Sys2Proof.Machine.execCharacterComplete rl data parity stop s
  | .breakDetected rl => Sys2Proof.Machine.execBreakDetected rl s
  | .framingCharacterReleased rl => Sys2Proof.Machine.execFramingCharacterReleased rl s
  | .headReadyChange rl => Sys2Proof.Machine.execHeadReadyChange rl s
  | .consumeCharacter rl => Sys2Proof.Machine.execConsumeCharacter rl s
  | .interCharacterTimeout rl => Sys2Proof.Machine.execInterCharacterTimeout rl s
  | .holdClockExpiry rl => Sys2Proof.Machine.execHoldClockExpiry rl s
  | .replyCharacterSent rl => Sys2Proof.Machine.execReplyCharacterSent rl s
  | .testCharacterSent rl => Sys2Proof.Machine.execTestCharacterSent rl s
  | .evaluationTake => Sys2Proof.Machine.execEvaluationTake s
  | .consensusStep => Sys2Proof.Machine.execConsensusStep s
  | .finalisationStep => Sys2Proof.Machine.execFinalisationStep s
  | .overdueStep => Sys2Proof.Machine.execOverdueStep s
  | .countdownStep => Sys2Proof.Machine.execCountdownStep s
  | .transferStep => Sys2Proof.Machine.execTransferStep s
  | .summary => Sys2Proof.Machine.execSummary s
  | .closeInEdge => Sys2Proof.Machine.execCloseInEdge s
  | .dayTimerTick => Sys2Proof.Machine.execDayTimerTick s
  | .dayTimerExpiry => Sys2Proof.Machine.execDayTimerExpiry s
  | .leaseTick item => Sys2Proof.Machine.execLeaseTick item s
  | .leaseExpiry item => Sys2Proof.Machine.execLeaseExpiry item s
  | .headerReadComplete => Sys2Proof.Machine.execHeaderReadComplete s
  | .loadEnd => Sys2Proof.Machine.execLoadEnd s
  | .pageWriteComplete => Sys2Proof.Machine.execPageWriteComplete s
  | .writeTimeout => Sys2Proof.Machine.execWriteTimeout s
  | .noAnswer => Sys2Proof.Machine.execNoAnswer s
  | .commandSelection p bytes => Sys2Proof.Machine.execCommandSelection p bytes s
  | .collectSelection p n => Sys2Proof.Machine.execCollectSelection p n s
  | .enrollLine p => Sys2Proof.Machine.execEnrollLine p s
  | .suspendLine p => Sys2Proof.Machine.execSuspendLine p s
  | .resumeLine p => Sys2Proof.Machine.execResumeLine p s
  | .withdrawLine p => Sys2Proof.Machine.execWithdrawLine p s
  | .setLineAim p => Sys2Proof.Machine.execSetLineAim p s
  | .chemEvent p => Sys2Proof.Machine.execChemEvent p s
  | .voidPoint p => Sys2Proof.Machine.execVoidPoint p s
  | .readLine p => Sys2Proof.Machine.execReadLine p s
  | .readPoint p => Sys2Proof.Machine.execReadPoint p s
  | .readDrift p => Sys2Proof.Machine.execReadDrift p s
  | .readAims p => Sys2Proof.Machine.execReadAims p s
  | .writeAim p => Sys2Proof.Machine.execWriteAim p s
  | .writeAimRules p => Sys2Proof.Machine.execWriteAimRules p s
  | .setPreload p => Sys2Proof.Machine.execSetPreload p s
  | .discardPending p => Sys2Proof.Machine.execDiscardPending p s
  | .defineLot p => Sys2Proof.Machine.execDefineLot p s
  | .makeCurrent p => Sys2Proof.Machine.execMakeCurrent p s
  | .retireLot p => Sys2Proof.Machine.execRetireLot p s
  | .clearLot p => Sys2Proof.Machine.execClearLot p s
  | .writeCorrection p => Sys2Proof.Machine.execWriteCorrection p s
  | .adoptProposal p => Sys2Proof.Machine.execAdoptProposal p s
  | .readLot p => Sys2Proof.Machine.execReadLot p s
  | .closeDay p => Sys2Proof.Machine.execCloseDay p s
  | .readDay p => Sys2Proof.Machine.execReadDay p s
  | .writeDesk p => Sys2Proof.Machine.execWriteDesk p s
  | .hold p => Sys2Proof.Machine.execHold p s
  | .renew p => Sys2Proof.Machine.execRenew p s
  | .release p => Sys2Proof.Machine.execRelease p s
  | .readHolds p => Sys2Proof.Machine.execReadHolds p s
  | .nextAlert p => Sys2Proof.Machine.execNextAlert p s
  | .ackAlert p => Sys2Proof.Machine.execAckAlert p s
  | .setSubscription p => Sys2Proof.Machine.execSetSubscription p s
  | .getAttention p => Sys2Proof.Machine.execGetAttention p s
  | .setAttention p => Sys2Proof.Machine.execSetAttention p s
  | .setReader p => Sys2Proof.Machine.execSetReader p s
  | .readReader p => Sys2Proof.Machine.execReadReader p s
  | .clearReaderFaults p => Sys2Proof.Machine.execClearReaderFaults p s
  | .testReader p => Sys2Proof.Machine.execTestReader p s
  | .saveImage p => Sys2Proof.Machine.execSaveImage p s
  | .readStore p => Sys2Proof.Machine.execReadStore p s
  | .setLock p => Sys2Proof.Machine.execSetLock p s
  | .restart p ready straps => Sys2Proof.Machine.execRestart p ready straps s
  | .resetPort p => Sys2Proof.Machine.execResetPort p s
  | .unknownCommand p => Sys2Proof.Machine.execUnknownCommand p s
  | .selectionBegins p => Sys2Proof.Machine.execSelectionBegins p s
  | .returnToMarkAfterBreak rl => Sys2Proof.Machine.execReturnToMarkAfterBreak rl s
  | .closeOutPulseEnd => Sys2Proof.Machine.execCloseOutPulseEnd s

end Sys2Proof.Machine
end

