-- ==== Sys2Proof/Safety.lean ====
section
/-! DEFINITION. What stays true of the part at every step: the laws the manual states of its tables, queues, ports and
close passes, each as a predicate of one state. A run is safe when no step of it is a fault or a refusal; the laws hold
at reset and every step keeps them. -/
namespace Sys2Proof.Machine

/-! ### When a command is carried out -/

/-- A command with these parameter bytes is in execution at a port (R158). -/
def State.executes (s : State) (p : Port) (c : Command) (params : List Byte) : Prop :=
  (s.port p).executing = some ⟨c.code, params⟩

/-- Steps 4 to 7 of R159 pass: the store is not LOADING (but for READ-STORE), not SAVING for a command that changes image
content, the protection level does not refuse the command, and the caller holds the item it needs held. -/
def State.permits (s : State) (p : Port) (c : Command) (item : Option Item) : Prop :=
  (s.store.loading = true → c = .readStore) ∧ (s.store.isSaving = true → c.changesImage = false) ∧
  c.locked s.level = false ∧ ∀ i, item = some i → s.holder i = some p

/-- The item an item kind and an index name, if they name one (R161, R182). -/
def namesItem (k i : Byte) : Prop := (k = 1 ∧ i.toNat < 96) ∨ ((k = 2 ∨ k = 3) ∧ i.toNat < 16) ∨ (k = 4 ∧ i = 0)

/-- Step 3 of R159 passes: the bytes are the command's parameters (R182), and every number, code and quantity among them
lies in the range the command's rule gives it. -/
def Command.paramsPass (c : Command) (bs : List Byte) : Prop :=
  let flag := fun x : Byte => x = 0 ∨ x = 1
  let kind := fun x : Byte => x = 1 ∨ x = 2
  let one := fun n : Nat => ∃ a, bs = [a] ∧ a.toNat < n
  match c with
  | .enrollLine => ∃ a b k m, bs = [a, b, k, m] ∧ 1 ≤ nat16 a b ∧ nat16 a b ≤ 65534 ∧ kind k ∧ m.toNat < 16
  | .suspendLine => one 96
  | .resumeLine => one 96
  | .withdrawLine => one 96
  | .setLineAim => ∃ a m, bs = [a, m] ∧ a.toNat < 96 ∧ m.toNat < 16
  | .chemEvent => ∃ a e, bs = [a, e] ∧ a.toNat < 96 ∧ (e = 1 ∨ e = 2)
  | .voidPoint => ∃ a h l, bs = [a, h, l] ∧ a.toNat < 96
  | .readLine => one 96
  | .readPoint => ∃ a g, bs = [a, g] ∧ a.toNat < 96 ∧ g.toNat < 20
  | .readDrift => one 96
  | .readAims => one 16
  | .writeAim => ∃ k v rest, bs = k :: v :: rest ∧ rest.length = 10 ∧ k.toNat < 16 ∧ v.toNat < 12
  | .writeAimRules => ∃ k q r l x, bs = [k, q, r, l, x] ∧ k.toNat < 16 ∧ kind q
  | .setPreload => ∃ k m, bs = [k, m] ∧ k.toNat < 16 ∧ flag m
  | .discardPending => one 16
  | .defineLot => ∃ k a b d e q refs, bs = k :: a :: b :: d :: e :: q :: refs ∧ refs.length = 24 ∧ k.toNat < 16 ∧
      1 ≤ nat32 a b d e ∧ kind q ∧
      ∀ v : Fin 12, let x := int16 (refs.getD (2 * v.val) 0) (refs.getD (2 * v.val + 1) 0); -4000 ≤ x ∧ x ≤ 4000
  | .makeCurrent => one 16
  | .retireLot => one 16
  | .clearLot => one 16
  | .writeCorrection => ∃ k v h l, bs = [k, v, h, l] ∧ k.toNat < 16 ∧ v.toNat < 12 ∧ -500 ≤ int16 h l ∧ int16 h l ≤ 500
  | .adoptProposal => one 16
  | .readLot => one 16
  | .closeDay => bs = []
  | .readDay => bs = []
  | .writeDesk => ∃ l1 l2 w m q x t o d, bs = [l1, l2, w, m, q, x, t, o, d] ∧ 600 ≤ nat16 l1 l2 ∧ nat16 l1 l2 ≤ 2160 ∧
      w.toNat ∈ [25, 50, 75, 100] ∧ m.toNat < 3 ∧ 3 ≤ q.toNat ∧ q.toNat ≤ 24 ∧ x.toNat ∈ [50, 60, 75, 90] ∧
      10 ≤ t.toNat ∧ t.toNat ≤ 200 ∧ 1 ≤ o.toNat ∧ o.toNat ≤ 7 ∧ 1 ≤ d.toNat ∧ d.toNat ≤ 7
  | .hold => ∃ k i l, bs = [k, i, l] ∧ namesItem k i ∧ l.toNat ≤ 60
  | .renew => ∃ k i l, bs = [k, i, l] ∧ namesItem k i ∧ l.toNat ≤ 60
  | .release => ∃ k i, bs = [k, i] ∧ namesItem k i
  | .readHolds => bs = []
  | .nextAlert => bs = []
  | .ackAlert => ∃ k t, bs = [k, t] ∧ k.toNat < 32
  | .setSubscription => ∃ h l, bs = [h, l] ∧ nat16 h l < 512
  | .getAttention => bs = []
  | .setAttention => ∃ m g, bs = [m, g] ∧ m.toNat < 32 ∧ g.toNat < 32
  | .setReader => ∃ a e r b x, bs = [a, e, r, b, x] ∧ a.toNat < 4 ∧ flag e ∧ 1 ≤ r.toNat ∧ r.toNat ≤ 4 ∧ flag b ∧
      1 ≤ x.toNat
  | .readReader => one 4
  | .clearReaderFaults => one 4
  | .testReader => one 4
  | .saveImage => bs = []
  | .readStore => bs = []
  | .setLock => one 4
  | .restart => bs = []
  | .resetPort => bs = []

/-- A response carries a refusal: a status other than OK and NONE. -/
def Status.refusal (st : Status) : Bool := st != .ok && st != .nothing

/-- The row of the opcode table that carries out a command at a port; RESTART alone takes the sampled levels. -/
def Command.row (c : Command) (p : Port) (ready : BitVec 4) (straps : BitVec 3) : Instr :=
  match c with
  | .enrollLine => .enrollLine p
  | .suspendLine => .suspendLine p
  | .resumeLine => .resumeLine p
  | .withdrawLine => .withdrawLine p
  | .setLineAim => .setLineAim p
  | .chemEvent => .chemEvent p
  | .voidPoint => .voidPoint p
  | .readLine => .readLine p
  | .readPoint => .readPoint p
  | .readDrift => .readDrift p
  | .readAims => .readAims p
  | .writeAim => .writeAim p
  | .writeAimRules => .writeAimRules p
  | .setPreload => .setPreload p
  | .discardPending => .discardPending p
  | .defineLot => .defineLot p
  | .makeCurrent => .makeCurrent p
  | .retireLot => .retireLot p
  | .clearLot => .clearLot p
  | .writeCorrection => .writeCorrection p
  | .adoptProposal => .adoptProposal p
  | .readLot => .readLot p
  | .closeDay => .closeDay p
  | .readDay => .readDay p
  | .writeDesk => .writeDesk p
  | .hold => .hold p
  | .renew => .renew p
  | .release => .release p
  | .readHolds => .readHolds p
  | .nextAlert => .nextAlert p
  | .ackAlert => .ackAlert p
  | .setSubscription => .setSubscription p
  | .getAttention => .getAttention p
  | .setAttention => .setAttention p
  | .setReader => .setReader p
  | .readReader => .readReader p
  | .clearReaderFaults => .clearReaderFaults p
  | .testReader => .testReader p
  | .saveImage => .saveImage p
  | .readStore => .readStore p
  | .setLock => .setLock p
  | .restart => .restart p ready straps
  | .resetPort => .resetPort p

/-! ### The order of the waiting kinds -/

/-- A key's place in scan order: lines before slots, on a line the values 0 to 11 and then the line level (R144). A slot
without a value is no key of a waiting kind. -/
def scanRank (k : Key) : Nat :=
  match k.subject, k.value with
  | .line n, some v => 13 * n.val + v.val
  | .line n, none => 13 * n.val + 12
  | .lot l, some v => 1248 + 12 * l.val + v.val
  | .lot _, none => 1440

/-! ### The state without its alerts -/

/-- A line's context without its waiting kinds. -/
def LineCtx.unwaited (c : LineCtx) : LineCtx := { c with waiting := Table.fill 13 none }

/-- A slot without its waiting kinds. -/
def Lot.unwaited (l : Lot) : Lot := { l with waiting := Table.fill 12 none }

/-- Everything the state holds but the alert list, its serial counters and the waiting kinds: two states with one such
remainder differ in their alerts alone. -/
def State.quiet (s : State) : State :=
  { s with
    alerts := [], serials := Table.fill 32 0#8
    lines := s.lines.map (Option.map LineCtx.unwaited), lots := s.lots.map (Option.map Lot.unwaited) }

/-! ### The laws of the state -/

/-- While the store is LOADING every table, the queue, the day and the alert list stand at their values after reset
(R160, R174, step 5 of R25). -/
def LoadingOk (s : State) : Prop :=
  s.store.loading = true →
    s.queue = [] ∧ s.drain = 0 ∧ s.labMap = [] ∧ s.lines = Table.fill 96 none ∧ s.aims = Table.fill 16 AimSet.default ∧
    s.lots = Table.fill 16 none ∧ s.day = DayUnit.reset ∧ s.alerts = [] ∧ s.holds = []

/-- The serial memory keeps its canonical form (log 18). -/
def MemoryOk (s : State) : Prop := Memory.wf s.memory

/-- The hold table holds at most 8 records, one for an item, with leases of 1 to 60 minutes (R161). -/
def HoldsOk (s : State) : Prop :=
  s.holds.length ≤ Config.holdDepth ∧ (s.holds.map Hold.item).Nodup ∧ ∀ h ∈ s.holds, 1 ≤ h.lease ∧ h.lease ≤ 60

/-- The lab map is one-to-one between its keys and the lines that are not UNUSED (R62). -/
def LabMapOk (s : State) : Prop :=
  (s.labMap.map fun e => (e.lab, e.kind)).Nodup ∧ (s.labMap.map MapEntry.line).Nodup ∧
  (∀ e ∈ s.labMap, ∃ c, s.line e.line = some c ∧ c.lab = e.lab ∧ c.kind = e.kind) ∧
  ∀ n c, s.line n = some c → ⟨c.lab, c.kind, n⟩ ∈ s.labMap

/-- Both parts of every aim set are valid, and with preload OFF they are equal (R88). -/
def AimsOk (s : State) : Prop :=
  ∀ k, (s.aim k).active.valid = true ∧ (s.aim k).pending.valid = true ∧
    ((s.aim k).preload = false → (s.aim k).active = (s.aim k).pending)

/-- The aim set named by a line that is not UNUSED has the line's process kind (R63). -/
def BindingOk (s : State) : Prop := ∀ n c, s.line n = some c → (s.aim c.aim).kind = c.kind

/-- The lots: no two slots hold one code, at most one slot of a process kind is CURRENT, and a RETIRING slot counts from 7
to 1 (R101, R105); the crossover days lie in 1 to 7 with the other desk settings in their ranges (section 7.2). -/
def LotsOk (s : State) : Prop :=
  s.day.desk.inRange = true ∧
  (∀ j k l m, s.lot j = some l → s.lot k = some m → l.code = m.code → j = k) ∧
  (∀ j k l m, s.lot j = some l → s.lot k = some m → l.state = .current → m.state = .current → l.kind = m.kind → j = k) ∧
  ∀ k l c, s.lot k = some l → l.state = .retiring c → 1 ≤ c ∧ c ≤ 7

/-- A line's assembler is HELD. -/
def Reader.isHeld (r : Reader) : Bool :=
  r.onWire && match r.phase with
    | .hunt => false
    | .receiving _ => false
    | .held _ => true

/-- The intake queue holds at most 24 records, frames wait only while it is full, and the arbiter's order names each HELD
line once (R29, R30, R42). -/
def QueueOk (s : State) : Prop :=
  s.queue.length ≤ Config.queueDepth ∧ (s.heldOrder ≠ [] → s.queue.length = Config.queueDepth) ∧ s.heldOrder.Nodup ∧
  ∀ rl, rl ∈ s.heldOrder ↔ (s.reader rl).isHeld = true

/-- A reader line: the FIFO's depth (R19), what OFF leaves empty (R36), the calibration's count (R2), and the room of the
transmitter (R31). -/
def Reader.ok (r : Reader) : Prop :=
  r.fifo.length ≤ Config.fifoDepth ∧
  (r.enable = false → r.fifo = [] ∧ r.phase = .hunt ∧ r.sending = none) ∧
  (1 ≤ r.calLife ∧ r.calLife ≤ 255) ∧
  (match r.cal with
    | .uncalibrated => True
    | .valid _ _ n => 1 ≤ n ∧ n ≤ 255
    | .spent _ _ => True) ∧
  r.waiting.length ≤ 1 ∧ (r.sending = none → r.waiting = []) ∧ (r.inLoop = true → r.holdsReply = false) ∧
  (match r.phase with
    | .hunt => True
    | .receiving _ => r.holdsReply = false
    | .held _ => r.waiting = [] ∧ r.inLoop = false) ∧
  (r.inLoop = false → r.testSender = [] ∧ (r.sending.isSome = true → r.sendsReply = true))

/-- Every reader line keeps its bounds. -/
def ReadersOk (s : State) : Prop := ∀ rl, (s.reader rl).ok

/-- The subject of an alert names a line that is not UNUSED or a slot that is not EMPTY (R68, R108). -/
def State.named (s : State) : Subject → Bool
  | .line n => (s.line n).isSome
  | .lot k => (s.lot k).isSome

/-- The alert list: at most 32 entries, no two with one number or one key, none without a pending port, none that names
an UNUSED line or an EMPTY slot; a key has an entry or a waiting kind and never both, and kinds wait only while the list
is full (R139, R143). -/
def AlertsOk (s : State) : Prop :=
  s.alerts.length ≤ Config.listDepth ∧ (s.alerts.map AlertEntry.number).Nodup ∧ (s.alerts.map AlertEntry.key).Nodup ∧
  (∀ e ∈ s.alerts, e.ports.empty = false ∧ s.named e.key.subject = true) ∧
  ∀ k, (s.waitingAt k).isSome = true → s.entryAt k = none ∧ s.alerts.length = Config.listDepth

/-- A port has at most one command in execution and at most one response, never both (R155, R158), and a selection that
found no command in execution finds none until it ends (R156). -/
def PortUnit.ok (u : PortUnit) : Prop :=
  (u.executing.isSome = true → u.response = none) ∧
  ∀ x, u.selection = some x →
    (x.state ≠ .notReady → u.executing = none) ∧ (x.discarded = true → u.executing = none) ∧
    (x.state = .ready → x.discarded = false → u.response.isSome = true)

/-- Both ports keep their law. -/
def PortsOk (s : State) : Prop := s.mp0.ok ∧ s.mp1.ok

/-- The days of the records in the queue: all of the current day, except the drained ones at the head, which are of the
closing day (R45 to R47). -/
def QueueDays (s : State) : Prop :=
  (∀ x ∈ s.queue.drop s.drain, x.day = s.day.number) ∧ (∀ x ∈ s.queue.take s.drain, x.day + 1 = s.day.number) ∧
  s.drain ≤ s.queue.length ∧ (0 < s.drain ↔ s.day.state = .draining)

/-- The day of a point that is still PROVISIONAL on a line: the current day in OPEN, and the closing day until the pass has
finalised its line (R73). -/
def provisionalDay (d : DayUnit) (n : Fin 96) (day : Nat) : Prop :=
  match d.state with
  | .dayOpen => day = d.number
  | .draining => day + 1 = d.number
  | .closing (.consensus _) => day + 1 = d.number
  | .closing (.finalisation m) => m ≤ n ∧ day + 1 = d.number
  | .closing _ => False
  | .transferWait => False

/-- A chart ring: at most 20 points in strictly increasing day order, none of a day to come, and the PROVISIONAL ones of
the day they may be of (R71, R73). -/
def ringOk (d : DayUnit) (n : Fin 96) (ring : List Point) : Prop :=
  ring.length ≤ Config.ringDepth ∧ (ring.map Point.day).Pairwise (· < ·) ∧
  ∀ q ∈ ring, q.day ≤ d.number ∧ (d.state = .draining → q.day < d.number) ∧
    (q.state = .provisional → provisionalDay d n q.day)

/-- The day: its number, the closing day the day before it while a pass runs, the days of the queue and the rings (R47,
R71, R73, R117, R124). -/
def DayOk (s : State) : Prop :=
  1 ≤ s.day.number ∧ s.day.number ≤ Config.lastDay ∧
  (s.day.state ≠ .dayOpen → ∃ c, s.day.last = some ⟨s.day.number - 1, c⟩) ∧
  QueueDays s ∧ ∀ n c, s.line n = some c → ringOk s.day n c.ring

end Sys2Proof.Machine
end

