-- ==== Sys2Proof/WellFormed.lean ====
section
/-! DEFINITION. Which commands can stand on the part's pins: a selection's kind is decided by its first completed
byte, and a selection with no completed byte is neither kind (R155). The bounds of line, set and slot numbers are in
their types. -/
namespace Sys2Proof

/-- A command selection has a first byte that is not COLLECT, and a collect selection has at least its COLLECT byte
(R155). -/
def Instr.wellFormed : Instr → Bool
  | .commandSelection _ [] => false
  | .commandSelection _ (b :: _) => b != Config.collectByte
  | .collectSelection _ n => decide (0 < n)
  | _ => true

end Sys2Proof
end

