-- ==== Sys2Proof/Certificates/Slice0/Obligations.lean ====
section
/-! DEFINITION. The statements about the part, from the numbered rules of the spec. A statement about a command in
execution gives its parameter bytes; `permits` says that steps 4 to 7 of R159 pass; `answer` writes the response and
ends the execution (R158). -/

open Sys2Proof Sys2Proof.Machine

/-! ### The machine -/

/-- A step takes the command at the front of the queue and runs exactly it on the state with the queue's rest; on an empty
queue the part idles (the model's choice, log 3). -/
def Obligations.StepRunsTheFrontCommand : Prop :=
  (∀ (c : Instr) (rest : List Instr) (s : State), s.pending = c :: rest → step s = exec c { s with pending := rest }) ∧
  ∀ s : State, s.pending = [] → step s = .next s

/-- Every command of the table answers a next state in every state, and none touches the commands that wait. That a row
whose event cannot happen in a state answers next is the model's choice (log 2). -/
def Obligations.EveryCommandAnswersNext : Prop :=
  ∀ (c : Instr) (s : State), ∃ t, exec c s = .next t ∧ t.pending = s.pending

/-- What a reset leaves (02 section 2.7 and the reset sections of every chapter). The withheld character and the break
latch of a line are the model's choice (log 8). RESTART leaves the same but for the protection level. -/
def Obligations.ResetOfThePart : Prop :=
  ∀ (ready : BitVec 4) (straps : BitVec 3) (s : State), ∃ t, exec (.powerOnReset ready straps) s = .next t ∧
    (∀ k : Fin 4, t.reader k =
      { enable := true, rate := .r19200, loopback := false, calLife := 40, phase := .hunt, fifo := [], withheld := none,
        breakLatch := false, headReady := ready.getLsbD k.val, delta := false, cal := .uncalibrated,
        fault := ⟨none, none, none, none, 0⟩, test := .noTest, sending := none, waiting := [], testSender := [] }) ∧
    t.heldOrder = [] ∧ t.queue = [] ∧ t.drain = 0 ∧ t.labMap = [] ∧ (∀ n, t.line n = none) ∧ (∀ k, t.lot k = none) ∧
    (∀ k, (t.aim k).kind = .film ∧ (t.aim k).preload = true ∧ (t.aim k).pending = (t.aim k).active ∧
      (t.aim k).active.run = 7 ∧ (t.aim k).active.slope = 6 ∧ (t.aim k).active.settling = 3 ∧
      ∀ v, (t.aim k).active.aims.get v = ⟨0, -150, -80, 80, 150⟩) ∧
    t.day.number = 1 ∧ t.day.timer = 0 ∧ t.day.state = .dayOpen ∧ t.day.firstClose = true ∧ t.day.last = none ∧
    t.day.missedEdge = false ∧ t.day.summary = none ∧ t.day.closeOut = false ∧
    t.day.desk = ⟨1440, 75, .alone, 5, 60, 40, 2, 3⟩ ∧
    t.alerts = [] ∧ (∀ k, t.serials.get k = 0) ∧
    (∀ p, (t.port p).executing = none ∧ (t.port p).response = none ∧ (t.port p).subscription = 0x1FF ∧
      (t.port p).masks = 0x1F ∧ (t.port p).groups = 0x03 ∧ (t.port p).closeFlag = false ∧
      (t.port p).lapseFlag = false ∧ (t.port p).readerFlag = false ∧ (t.port p).storeFlag = false) ∧
    t.holds = [] ∧ t.level = 0 ∧ t.store = ⟨.loadingHeader, .noOutcome, 0, straps⟩ ∧
    (s.store.isSaving = false → t.memory = s.memory) ∧
    (∀ body, s.store.phase = .saving body →
      t.memory = s.memory ∨ t.memory = writePage s.memory body s.store.writes) ∧
    ∀ p, s.executes p .restart [] → s.store.loading = false →
      exec (.restart p ready straps) s = .next { t with level := s.level }

/-! ### Reader lines -/

/-- The disposal of characters (R17 to R19): what completes with its stop bit at mark is entered, lost with the marking,
or ignored; at space it is withheld, or discarded when a break of its space was detected first; a break and the end of the
space dispose of what was withheld. A change of HEAD-READY sets the delta flag, and a fall discards a frame being received
or held, without a reply (R20). That a break on an OFF line sets the latch and drops what was withheld is the model's
reading (log 9), and so is that a character completing at space with the latch set is passed over, and that one with its
stop bit at mark is disposed of whatever the latch (log 29, DEDUCED); that the level of HEAD-READY at the release governs
a withheld character is its choice (log 31), and so is that the latch lasts through LOOPBACK and the return to mark
clears it there (log 32). -/
def Obligations.CharacterReception : Prop :=
  ∀ (rl : Fin 4) (data : Byte) (parity : Bool) (s : State),
    let r := s.reader rl
    let marked := fun (last : FifoChar) => (⟨last.data, { last.tags with overrunAfter := true }⟩ : FifoChar)
    (r.withheld = none → r.onWire = true → r.headReady = true → r.fifo.length < 64 →
      exec (.characterComplete rl data parity true) s =
        .next (s.setReader rl { r with fifo := r.fifo ++ [⟨data, ⟨oddParity data parity, false, false, false⟩⟩] })) ∧
    (∀ init last, r.withheld = none → r.onWire = true → r.headReady = true → r.fifo = init ++ [last] →
      64 ≤ r.fifo.length →
      exec (.characterComplete rl data parity true) s = .next (s.setReader rl { r with fifo := init ++ [marked last] })) ∧
    (r.withheld = none → (r.onWire = false ∨ r.headReady = false) →
      exec (.characterComplete rl data parity true) s = .next s) ∧
    (r.withheld = none → r.onWire = true → r.breakLatch = false →
      exec (.characterComplete rl data parity false) s = .next (s.setReader rl { r with withheld := some ⟨data, parity⟩ })) ∧
    (r.withheld = none → (r.onWire = false ∨ r.breakLatch = true) →
      exec (.characterComplete rl data parity false) s = .next s) ∧
    (r.onWire = true → r.breakLatch = false → (r.headReady = true → r.fifo.length < 64) →
      exec (.breakDetected rl) s =
        .next { s.setReader rl { r with
            phase := .hunt, withheld := none, breakLatch := true
            fifo := if r.headReady then r.fifo ++ [⟨0, ⟨false, false, true, false⟩⟩] else r.fifo } with
          heldOrder := s.heldOrder.filter fun x => x != rl }) ∧
    (∀ init last, r.onWire = true → r.breakLatch = false → r.headReady = true → r.fifo = init ++ [last] →
      64 ≤ r.fifo.length →
      exec (.breakDetected rl) s =
        .next { s.setReader rl { r with
            phase := .hunt, withheld := none, breakLatch := true, fifo := init ++ [marked last] } with
          heldOrder := s.heldOrder.filter fun x => x != rl }) ∧
    (r.enable = false → r.breakLatch = false →
      exec (.breakDetected rl) s = .next (s.setReader rl { r with withheld := none, breakLatch := true })) ∧
    (r.breakLatch = true ∨ r.inLoop = true → exec (.breakDetected rl) s = .next s) ∧
    (∀ w, r.withheld = some w → r.onWire = true → r.headReady = true → r.fifo.length < 64 →
      exec (.framingCharacterReleased rl) s =
        .next (s.setReader rl { r with
          withheld := none, fifo := r.fifo ++ [⟨w.data, ⟨oddParity w.data w.parity, true, false, false⟩⟩] })) ∧
    (∀ w init last, r.withheld = some w → r.onWire = true → r.headReady = true → r.fifo = init ++ [last] →
      64 ≤ r.fifo.length →
      exec (.framingCharacterReleased rl) s =
        .next (s.setReader rl { r with withheld := none, fifo := init ++ [marked last] })) ∧
    (∀ w, r.withheld = some w → r.onWire = true → r.headReady = false →
      exec (.framingCharacterReleased rl) s = .next (s.setReader rl { r with withheld := none })) ∧
    exec (.returnToMarkAfterBreak rl) s = .next (s.setReader rl { r with breakLatch := false }) ∧
    (r.headReady = false ∨ r.onWire = false →
      exec (.headReadyChange rl) s = .next (s.setReader rl { r with headReady := !r.headReady, delta := true })) ∧
    (r.headReady = true → r.onWire = true →
      exec (.headReadyChange rl) s =
        .next { s.setReader rl { r with headReady := false, delta := true, phase := .hunt } with
          heldOrder := s.heldOrder.filter fun x => x != rl })

/-- The assembler consumes the FIFO's head while the transmitter holds no reply: hunting, receiving, and in LOOPBACK,
where HEAD-READY and replies do not concern it (R21 to R23, R38, R40); a frame's length, the clock's expiry in LOOPBACK and
the outcome of a test frame of n body bytes with its two check bytes (R23, R24, R40). -/
def Obligations.AssemblerConsumption : Prop :=
  (∀ (rl : Fin 4) (c : FifoChar) (rest : List FifoChar) (s : State),
    let r := s.reader rl
    let outcome := fun (t : TestResult) => if r.test = TestResult.running then t else r.test
    r.enable = true → r.fifo = c :: rest →
    (r.loopback = false → r.holdsReply = true → exec (.consumeCharacter rl) s = .next s) ∧
    (r.loopback = false → r.holdsReply = false → r.phase = .hunt → c = ⟨0xA5, ⟨false, false, false, false⟩⟩ →
      r.headReady = true →
      exec (.consumeCharacter rl) s = .next (s.setReader rl { r with fifo := rest, phase := .receiving [] })) ∧
    (r.loopback = false → r.holdsReply = false → r.phase = .hunt →
      (c ≠ ⟨0xA5, ⟨false, false, false, false⟩⟩ ∨ r.headReady = false) →
      exec (.consumeCharacter rl) s = .next (s.setReader rl { r with fifo := rest })) ∧
    (r.loopback = true → r.phase = .hunt → c = ⟨0xA5, ⟨false, false, false, false⟩⟩ →
      exec (.consumeCharacter rl) s = .next (s.setReader rl { r with fifo := rest, phase := .receiving [] })) ∧
    (r.loopback = true → r.phase = .hunt → c ≠ ⟨0xA5, ⟨false, false, false, false⟩⟩ →
      exec (.consumeCharacter rl) s = .next (s.setReader rl { r with fifo := rest })) ∧
    (∀ bs, r.loopback = false → r.holdsReply = false → r.phase = .receiving bs → c.tags.brk = true →
      exec (.consumeCharacter rl) s = .next (s.setReader rl { r with fifo := rest, phase := .hunt })) ∧
    (∀ bs, r.loopback = true ∨ r.holdsReply = false → r.phase = .receiving bs →
      c.tags = ⟨false, false, false, false⟩ → frameComplete (bs ++ [c.data]) = false →
      exec (.consumeCharacter rl) s =
        .next (s.setReader rl { r with fifo := rest, phase := .receiving (bs ++ [c.data]) })) ∧
    (∀ bs, r.loopback = true → r.phase = .receiving bs → c.tags = ⟨false, false, false, false⟩ →
      frameComplete (bs ++ [c.data]) = true →
      exec (.consumeCharacter rl) s =
        .next (s.setReader rl { r with
          fifo := rest, phase := .hunt, test := outcome (testOutcome (bs ++ [c.data])) })) ∧
    (∀ bs, r.loopback = true → r.phase = .receiving bs → c.tags.brk = false →
      (c.tags.parity = true ∨ c.tags.framing = true ∨ c.tags.overrunAfter = true) →
      exec (.consumeCharacter rl) s =
        .next (s.setReader rl { r with fifo := rest, phase := .hunt, test := outcome .lineError })) ∧
    (∀ st, r.loopback = false → r.phase = .held st → exec (.consumeCharacter rl) s = .next s)) ∧
  (∀ (rl : Fin 4) (bs : List Byte) (s : State),
    let r := s.reader rl
    r.inLoop = true → r.phase = .receiving bs → r.fifo = [] →
    exec (.interCharacterTimeout rl) s =
      .next (s.setReader rl { r with
        phase := .hunt, test := if r.test = TestResult.running then TestResult.timeout else r.test })) ∧
  (frameComplete [] = false ∧ ∀ (n : Byte) (more : List Byte), frameComplete (n :: more) = true ↔ more.length = n.toNat + 2) ∧
  ∀ (n : Byte) (body : List Byte) (a b : Byte), body.length = n.toNat →
    let result := testOutcome (n :: body ++ [a, b])
    ([a, b] ≠ checkBytes (n :: body) → result = .crc) ∧
    ([a, b] = checkBytes (n :: body) →
      (n = 0 → result = .length) ∧
      ∀ k payload, body = k :: payload →
        (k ≠ 0x2E → result = .kind) ∧ (k = 0x2E → n ≠ 7 → result = .length) ∧ (k = 0x2E → n = 7 → result = .pass))

/-- A frame that fails is discarded, answered NAK and recorded, and READER is requested at both ports (R24, R25, R29,
R32); the transmitter is empty. -/
def Obligations.FailingFramesAreAnswered : Prop :=
  ∀ (rl : Fin 4) (s : State),
    let r := s.reader rl
    let nak := fun (r' : Reader) (c : Nak) (lab : Option Nat) (held : List (Fin 4)) =>
      { (s.setReader rl { r' with
          phase := .hunt, sending := some ⟨.reply (.nak c), r.rate⟩
          fault := ⟨some (.nak c), some .frame, lab, some s.day.number, if r.fault.count < 255 then r.fault.count + 1
            else r.fault.count⟩ }) with
        heldOrder := held, mp0 := { s.mp0 with readerFlag := true }, mp1 := { s.mp1 with readerFlag := true } }
    r.onWire = true → r.sending = none → r.waiting = [] →
    (∀ bs c rest, r.phase = .receiving bs → r.fifo = c :: rest → c.tags.brk = false →
      (c.tags.parity = true ∨ c.tags.framing = true ∨ c.tags.overrunAfter = true) →
      exec (.consumeCharacter rl) s = .next (nak { r with fifo := rest } .lineError none s.heldOrder)) ∧
    (∀ bs c rest code lab, r.phase = .receiving bs → r.fifo = c :: rest → c.tags = ⟨false, false, false, false⟩ →
      frameComplete (bs ++ [c.data]) = true → judgeFrame s rl (bs ++ [c.data]) = .nak code lab →
      exec (.consumeCharacter rl) s = .next (nak { r with fifo := rest } code lab s.heldOrder)) ∧
    (∀ bs, r.phase = .receiving bs → r.fifo = [] →
      exec (.interCharacterTimeout rl) s = .next (nak r .timeout none s.heldOrder)) ∧
    ∀ st, r.phase = .held st →
      exec (.holdClockExpiry rl) s =
        .next (nak r .full (some st.lab) (s.heldOrder.filter fun x => x != rl))

/-- The checks on a complete frame, in the order of R25: the check code, the length, the kind and its length, the store
state, with the fields of STRIP and CAL frames in their places (R181); the acceptability of a CAL frame (R3); then the
checks on a STRIP frame past the store state, in the order of R27, and the record a passing frame forms. -/
def Obligations.StripFrameChecksInOrder : Prop :=
  (∀ (s : State) (rl : Fin 4) (n : Byte) (body : List Byte) (a b : Byte), body.length = n.toNat →
    let judged := judgeFrame s rl (n :: body ++ [a, b])
    ([a, b] ≠ checkBytes (n :: body) → judged = .nak .crc none) ∧
    ([a, b] = checkBytes (n :: body) →
      (n = 0 → judged = .nak .length none) ∧
      ∀ k payload, body = k :: payload →
        (k ≠ 0x21 → k ≠ 0x22 → judged = .nak .kind none) ∧
        (k = 0x21 → n ≠ 34 → judged = .nak .length none) ∧ (k = 0x22 → n ≠ 9 → judged = .nak .length none) ∧
        (∀ f : StripFrame, k = 0x21 → n = 34 →
          payload = bytes16 f.lab ++ [f.kindCode] ++ bytes32 f.code ++ bytes16 f.gate ++ f.counts.cells.flatMap bytes16 →
          f.lab < 65536 → f.code < 4294967296 → f.gate < 65536 → (∀ i, f.counts.get i < 65536) →
          (s.store.loading = true → judged = .nak .notReady (some f.lab)) ∧
          (s.store.loading = false →
            (∀ c, stripCheck s rl f = .error c → judged = .nak c (some f.lab)) ∧
            ∀ st, stripCheck s rl f = .ok st → judged = .strip st)) ∧
        ∀ f : CalFrame, k = 0x22 → n = 9 → payload = bytes16 f.gate ++ f.opens.cells.flatMap bytes16 →
          f.gate < 65536 → (∀ i, f.opens.get i < 65536) →
          (s.store.loading = true → judged = .nak .notReady none) ∧
          (s.store.loading = false →
            (256 ≤ f.gate → f.gate ≤ 16384 → (∀ i, 1024 ≤ f.opens.get i) → judged = .cal f) ∧
            (f.gate < 256 ∨ 16384 < f.gate ∨ (∃ i, f.opens.get i < 1024) → judged = .nak .calWeak none)))) ∧
  ∀ (s : State) (rl : Fin 4) (f : StripFrame) (kind : ProcessKind) (n : Fin 96) (ctx : LineCtx) (k : Fin 16) (l : Lot),
    (kindOf f.kindCode = none ∨ f.lab = 0 ∨ 65535 ≤ f.lab → stripCheck s rl f = .error .notEnrolled) ∧
    (kindOf f.kindCode = some kind → s.findLine f.lab kind = none → stripCheck s rl f = .error .notEnrolled) ∧
    (kindOf f.kindCode = some kind → 1 ≤ f.lab → f.lab ≤ 65534 → s.findLine f.lab kind = some n → s.line n = some ctx →
      (ctx.state = .suspended → stripCheck s rl f = .error .suspended) ∧
      (ctx.state ≠ .suspended →
        (s.findLot f.code = none → stripCheck s rl f = .error .lotUnknown) ∧
        (s.findLot f.code = some k → s.lot k = some l →
          (l.kind ≠ ctx.kind → stripCheck s rl f = .error .wrongProcess) ∧
          (l.kind = ctx.kind → l.state = .retired → stripCheck s rl f = .error .lotRetired) ∧
          (l.kind = ctx.kind → l.state ≠ .retired → (s.reader rl).cal.inForce = false →
            stripCheck s rl f = .error .uncalibrated) ∧
          ∀ opens g left, l.kind = ctx.kind → l.state ≠ .retired → (s.reader rl).cal = .valid opens g left →
            (f.gate ≠ g → stripCheck s rl f = .error .gateMismatch) ∧
            (f.gate = g → stripCheck s rl f =
              .ok ⟨rl, f.lab, ctx.kind, f.code, k, n, convertAll opens f.counts⟩))))

/-- A frame that passes its checks, at the character that completes it, with the transmitter empty: a strip is appended
with the current day and consumes its calibration, or is held with WAIT; a CAL frame replaces the calibration (R3, R5,
R26, R28, R29). -/
def Obligations.AcceptedFrames : Prop :=
  ∀ (rl : Fin 4) (bs : List Byte) (c : FifoChar) (rest : List FifoChar) (s : State),
    let r := s.reader rl
    r.onWire = true → r.sending = none → r.waiting = [] → r.phase = .receiving bs → r.fifo = c :: rest →
    c.tags = ⟨false, false, false, false⟩ → frameComplete (bs ++ [c.data]) = true →
    (∀ st opens g left, judgeFrame s rl (bs ++ [c.data]) = .strip st → r.cal = .valid opens g left →
      s.queue.length < 24 → s.heldOrder = [] →
      exec (.consumeCharacter rl) s =
        .next { s.setReader rl { r with
            fifo := rest, phase := .hunt, sending := some ⟨.reply .accepted, r.rate⟩
            cal := if left ≤ 1 then .spent opens g else .valid opens g (left - 1) } with
          queue := s.queue ++ [⟨st, s.day.number⟩] }) ∧
    (∀ st, judgeFrame s rl (bs ++ [c.data]) = .strip st → (24 ≤ s.queue.length ∨ s.heldOrder ≠ []) →
      exec (.consumeCharacter rl) s =
        .next { s.setReader rl { r with fifo := rest, phase := .held st, sending := some ⟨.reply .wait, r.rate⟩ } with
          heldOrder := s.heldOrder ++ [rl] }) ∧
    ∀ f, judgeFrame s rl (bs ++ [c.data]) = .cal f →
      exec (.consumeCharacter rl) s =
        .next (s.setReader rl { r with
          fifo := rest, phase := .hunt, sending := some ⟨.reply .accepted, r.rate⟩
          cal := .valid f.opens f.gate r.calLife })

/-- A sent reply makes room for the waiting one; a sent test character arrives at the line's own receiver, whatever
HEAD-READY, and the test sender passes on the next (R31, R38, R39). The eleven bit-times of a character in transmission
stand on the transmit wire, and in LOOPBACK on the internal path while the wire is held at mark (R17, R38). That a test
character is received in the event that ends its sending is the model's reading (log 10). -/
def Obligations.TransmitterSends : Prop :=
  ∀ (rl : Fin 4) (s : State),
    let r := s.reader rl
    let marked := fun (last : FifoChar) => (⟨last.data, { last.tags with overrunAfter := true }⟩ : FifoChar)
    (∀ x rate, r.sending = some ⟨.reply x, rate⟩ → r.waiting = [] →
      exec (.replyCharacterSent rl) s = .next (s.setReader rl { r with sending := none })) ∧
    (∀ x rate y more, r.sending = some ⟨.reply x, rate⟩ → r.waiting = y :: more →
      exec (.replyCharacterSent rl) s =
        .next (s.setReader rl { r with sending := some ⟨.reply y, r.rate⟩, waiting := more })) ∧
    (∀ b rate, r.inLoop = true → r.sending = some ⟨.test b, rate⟩ → r.testSender = [] → r.fifo.length < 64 →
      exec (.testCharacterSent rl) s =
        .next (s.setReader rl { r with
          fifo := r.fifo ++ [⟨b, ⟨false, false, false, false⟩⟩], sending := none })) ∧
    (∀ b rate d more, r.inLoop = true → r.sending = some ⟨.test b, rate⟩ → r.testSender = d :: more →
      r.fifo.length < 64 →
      exec (.testCharacterSent rl) s =
        .next (s.setReader rl { r with
          fifo := r.fifo ++ [⟨b, ⟨false, false, false, false⟩⟩], sending := some ⟨.test d, r.rate⟩
          testSender := more })) ∧
    (∀ b rate init last, r.inLoop = true → r.sending = some ⟨.test b, rate⟩ → r.fifo = init ++ [last] →
      64 ≤ r.fifo.length →
      (r.testSender = [] →
        exec (.testCharacterSent rl) s = .next (s.setReader rl { r with fifo := init ++ [marked last], sending := none })) ∧
      ∀ d more, r.testSender = d :: more →
        exec (.testCharacterSent rl) s =
          .next (s.setReader rl { r with
            fifo := init ++ [marked last], sending := some ⟨.test d, r.rate⟩, testSender := more })) ∧
    (r.sending = none → r.txBits = none ∧ r.loopBits = none) ∧
    ∀ x, r.sending = some x → ∃ even : Bool,
      let data := (List.range 8).map fun i => x.char.data.getLsbD i
      let bits := [false] ++ data ++ [even, true]
      (data ++ [even]).count true % 2 = 0 ∧
      (r.inLoop = true → r.txBits = none ∧ r.loopBits = some bits) ∧
      (r.inLoop = false → r.txBits = some bits ∧ r.loopBits = none)

/-- SET-READER replaces the four settings; when it acts on the line, the FIFO is cleared, the frame goes without a reply,
and entering OFF or LOOPBACK empties the transmitter; otherwise nothing else changes (R31, R34, R35). On a line in
LOOPBACK it also empties the test sender and aborts a running test (R39, R40). A character withheld goes with the FIFO:
the model's choice (log 9). -/
def Obligations.SetReaderReplacesSettings : Prop :=
  ∀ (p : Port) (rl : Fin 4) (enable : Bool) (rate : Rate) (loopback : Bool) (life : Byte) (s : State),
    let r := s.reader rl
    s.executes p .setReader [byte rl.val, flagByte enable, rate.code, flagByte loopback, life] →
    s.permits p .setReader none →
    (life = 0 → exec (.setReader p) s = .next (s.answer p Command.setReader.code .range [])) ∧
    (life ≠ 0 → r.enable = enable → (r.enable = true → r.loopback = loopback ∧ r.rate = rate) →
      exec (.setReader p) s =
        .next ((s.setReader rl { r with rate := rate, loopback := loopback, calLife := life.toNat }).answer p
          Command.setReader.code .ok [])) ∧
    (life ≠ 0 → r.inLoop = false → (r.enable ≠ enable ∨ (r.enable = true ∧ (r.loopback ≠ loopback ∨ r.rate ≠ rate))) →
      exec (.setReader p) s =
        .next ({ s.setReader rl { r with
            enable := enable, rate := rate, loopback := loopback, calLife := life.toNat, fifo := [], withheld := none
            phase := .hunt
            sending := if r.enable = true ∧ (enable = false ∨ loopback = true) then none else r.sending
            waiting := if r.enable = true ∧ (enable = false ∨ loopback = true) then [] else r.waiting } with
          heldOrder := s.heldOrder.filter fun x => x != rl }.answer p Command.setReader.code .ok [])) ∧
    (life ≠ 0 → r.inLoop = true → (enable = false ∨ loopback = false ∨ r.rate ≠ rate) →
      exec (.setReader p) s =
        .next ({ s.setReader rl { r with
            enable := enable, rate := rate, loopback := loopback, calLife := life.toNat, fifo := [], withheld := none
            phase := .hunt, sending := none, waiting := if enable = false then [] else r.waiting, testSender := []
            test := if r.test = TestResult.running then TestResult.aborted else r.test } with
          heldOrder := s.heldOrder.filter fun x => x != rl }.answer p Command.setReader.code .ok []))

/-- CLEAR-READER-FAULTS sets the fault count to 0 and leaves the rest of the record and the READER requests (R33). -/
def Obligations.ClearReaderFaults : Prop :=
  ∀ (p : Port) (a : Byte) (s : State), s.executes p .clearReaderFaults [a] →
    (4 ≤ a.toNat → exec (.clearReaderFaults p) s = .next (s.answer p Command.clearReaderFaults.code .badParam [])) ∧
    ∀ rl : Fin 4, a.toNat = rl.val → s.permits p .clearReaderFaults none →
      exec (.clearReaderFaults p) s =
        .next ((s.setReader rl { s.reader rl with fault := { (s.reader rl).fault with count := 0 } }).answer p
          Command.clearReaderFaults.code .ok [])

/-- TEST-READER: refused STATE outside LOOPBACK and BUSY while RUNNING; otherwise the test frame begins in the empty
transmitter (R39). -/
def Obligations.TestReader : Prop :=
  ∀ (p : Port) (rl : Fin 4) (s : State),
    let r := s.reader rl
    s.executes p .testReader [byte rl.val] → s.permits p .testReader none →
    (r.inLoop = false → exec (.testReader p) s = .next (s.answer p Command.testReader.code .state [])) ∧
    (r.inLoop = true → r.test = .running →
      exec (.testReader p) s = .next (s.answer p Command.testReader.code .busy [])) ∧
    (r.inLoop = true → r.test ≠ .running → r.sending = none → r.testSender = [] →
      exec (.testReader p) s =
        .next ((s.setReader rl { r with
          test := .running, sending := some ⟨.test 0xA5, r.rate⟩
          testSender := [7, 0x2E, 0x55, 0xAA, 0x00, 0xFF, 0x0F, 0xF0] ++
            checkBytes [7, 0x2E, 0x55, 0xAA, 0x00, 0xFF, 0x0F, 0xF0] }).answer p Command.testReader.code .ok []))

/-! ### The evaluation engine -/

/-- A take: the record leaves the queue, its place is granted, and it is re-checked and dropped with the first failing
check's code, charged to its reader line, or placed; in DRAINING the drain count falls, and its last take begins the
close pass; no take is made in CLOSING and TRANSFER-WAIT (R45, R48, R49). The grant goes to the frame held longest: it is
appended with the current day and serves its calibration, or is refused UNCALIBRATED when that is no longer VALID, and
the place goes on to the next frame (R5, R6, R30). That the grant comes before the evaluation is the model's reading
(log 12), and so is VALID as what R6 calls in force (log 13); an empty queue is log 2's choice. -/
def Obligations.EvaluationTake : Prop :=
  (∀ s : State, s.heldOrder = [] → s.grant = s) ∧
  (∀ (s : State) (rl : Fin 4) (more : List (Fin 4)) (st : Strip), s.heldOrder = rl :: more →
    (s.reader rl).phase = .held st →
    let r := s.reader rl
    let reply := fun (r' : Reader) (x : Reply) =>
      if r.sending = none then { r' with sending := some ⟨.reply x, r.rate⟩ } else { r' with waiting := r.waiting ++ [x] }
    (∀ opens g left, r.cal = .valid opens g left →
      s.grant = { s.setReader rl (reply { r with
          phase := .hunt, cal := if left ≤ 1 then .spent opens g else .valid opens g (left - 1) } .accepted) with
        queue := s.queue ++ [⟨st, s.day.number⟩], heldOrder := more }) ∧
    ((∀ opens g left, r.cal ≠ .valid opens g left) →
      s.grant = State.grant { s.setReader rl (reply { r with
          phase := .hunt
          fault := ⟨some (.nak .uncalibrated), some .frame, some st.lab, some s.day.number,
            if r.fault.count < 255 then r.fault.count + 1 else r.fault.count⟩ } (.nak .uncalibrated)) with
        heldOrder := more, mp0 := { s.mp0 with readerFlag := true }, mp1 := { s.mp1 with readerFlag := true } })) ∧
  (∀ (s : State) (rec : StripRecord) (rest : List StripRecord), s.queue = rec :: rest →
    let evaluated := fun (t : State) =>
      match recheck s rec.strip with
      | .ok (c, l) => t.place rec c l
      | .error code =>
        let r := t.reader rec.strip.reader
        { t.setReader rec.strip.reader { r with
            fault := ⟨some code, some .evaluation, some rec.strip.lab, some s.day.number,
              if r.fault.count < 255 then r.fault.count + 1 else r.fault.count⟩ } with
          mp0 := { t.mp0 with readerFlag := true }, mp1 := { t.mp1 with readerFlag := true } }
    (s.day.state = .dayOpen → exec .evaluationTake s = .next (evaluated (State.grant { s with queue := rest }))) ∧
    (s.day.state = .draining → 1 < s.drain →
      exec .evaluationTake s = .next (evaluated (State.grant { s with queue := rest, drain := s.drain - 1 }))) ∧
    (s.day.state = .draining → s.drain = 1 →
      exec .evaluationTake s =
        .next ((evaluated (State.grant { s with queue := rest, drain := 0 })).setDay
          { s.day with state := .closing (.consensus 0) })) ∧
    (recheck s rec.strip =
      match s.line rec.strip.line, s.lot rec.strip.slot with
      | none, _ => .error .lineGone
      | some c, o =>
        if c.lab ≠ rec.strip.lab ∨ c.kind ≠ rec.strip.kind then .error .lineGone
        else if c.state = .suspended then .error (.nak .suspended)
        else match o with
          | none => .error .lotGone
          | some l =>
            if l.code ≠ rec.strip.code ∨ l.kind ≠ rec.strip.kind then .error .lotGone
            else if l.state = .retired then .error (.nak .lotRetired) else .ok (c, l))) ∧
  ∀ s : State, (∃ pos, s.day.state = .closing pos) ∨ s.day.state = .transferWait ∨ s.queue = [] →
    exec .evaluationTake s = .next s

/-- The first strip of a day makes a new point: its fields, the ring's room of 20, the settling flag and the epoch point
count, the line's state, one WARN or ACTION offer for each value that has a direction, in value order, and nothing else
(R52, R53, R57, R58). -/
def Obligations.NewPointPlacement : Prop :=
  ∀ (s : State) (rec : StripRecord) (c : LineCtx) (l : Lot), s.line rec.strip.line = some c →
    (∀ q ∈ c.ring, q.day ≠ rec.day) →
    let x := compute rec.strip l (s.aim c.aim).active
    let offer := fun (v : Fin 12) (kind : AlertKind) =>
      some (⟨⟨.line rec.strip.line, some v⟩, kind, rec.day, some (x.deviations.get v)⟩ : Offer)
    s.place rec c l =
      (s.setLine rec.strip.line (some { c with
        state := if c.state = .overdue then .active else c.state
        missed := 0
        epochPoints := if c.epochPoints < 255 then c.epochPoints + 1 else c.epochPoints
        ring := (if c.ring.length < 20 then c.ring else c.ring.drop 1) ++
          [{ day := rec.day, state := .provisional, head := rec.strip.reader, code := rec.strip.code
             slot := rec.strip.slot, epoch := c.epoch
             settling := decide (c.epochPoints < (s.aim c.aim).active.settling)
             doubtful := doubtfulOf rec.strip.readings, reruns := 0, readings := rec.strip.readings
             values := x.values, deviations := x.deviations, verdicts := x.verdicts
             first := none, cross := none }] })).offerAll
      ((List.finRange 12).filterMap fun v =>
        match x.verdicts.get v with
        | .inside => none
        | .warnHigh => offer v .warn
        | .warnLow => offer v .warn
        | .actionHigh => offer v .action
        | .actionLow => offer v .action)

/-- A later strip of the day: a rerun replaces the point's readings and keeps the first, a strip of another lot fills the
crossover part and leaves the point's own fields, and a VOID day keeps its point (R54, R55, R56); a rerun offers WARN,
ACTION or RECOVERED for each value that has a direction after it or had one before (R59), a crossover strip offers
CROSSOVER when the largest difference exceeds the tolerance (R60), a VOID day nothing (R56), and nothing else changes. -/
def Obligations.LaterStripsOfADay : Prop :=
  (∀ (c : LineCtx) (rec : StripRecord) (part : AimPart) (x : Computed) (pt : Point) (before after : List Point),
    c.ring = before ++ pt :: after → pt.day = rec.day → (∀ q ∈ before ++ after, q.day ≠ rec.day) →
    (placed c rec part x).state = (if c.state = .overdue then .active else c.state) ∧
    (placed c rec part x).missed = 0 ∧ (placed c rec part x).epochPoints = c.epochPoints ∧
    (placed c rec part x).epoch = c.epoch ∧ (placed c rec part x).filters = c.filters ∧
    (placed c rec part x).warn = c.warn ∧ (placed c rec part x).waiting = c.waiting ∧
    (placed c rec part x).lab = c.lab ∧ (placed c rec part x).kind = c.kind ∧ (placed c rec part x).aim = c.aim ∧
    (pt.state = .provisional → pt.code = rec.strip.code →
      (placed c rec part x).ring = before ++ { pt with
        head := rec.strip.reader, slot := rec.strip.slot, doubtful := doubtfulOf rec.strip.readings
        reruns := if pt.reruns < 7 then pt.reruns + 1 else pt.reruns
        readings := rec.strip.readings, values := x.values, deviations := x.deviations, verdicts := x.verdicts
        first := some (pt.first.getD ⟨pt.readings, pt.values⟩) } :: after) ∧
    (pt.state = .provisional → pt.code ≠ rec.strip.code →
      (placed c rec part x).ring = before ++ { pt with
        cross := some ⟨rec.strip.code, rec.strip.slot, rec.strip.readings, x.values, x.deviations,
          Table.ofFn fun v => x.deviations.get v - pt.deviations.get v⟩ } :: after) ∧
    (pt.state = .void → (placed c rec part x).ring = c.ring)) ∧
  ∀ (s : State) (rec : StripRecord) (c : LineCtx) (l : Lot) (pt : Point) (before after : List Point),
    s.line rec.strip.line = some c → c.ring = before ++ pt :: after → pt.day = rec.day →
    (∀ q ∈ before ++ after, q.day ≠ rec.day) →
    let x := compute rec.strip l (s.aim c.aim).active
    let offering := fun (os : List Offer) =>
      s.place rec c l = (s.setLine rec.strip.line (some (placed c rec (s.aim c.aim).active x))).offerAll os
    let offer := fun (v : Fin 12) (kind : AlertKind) =>
      some (⟨⟨.line rec.strip.line, some v⟩, kind, rec.day, some (x.deviations.get v)⟩ : Offer)
    (pt.state = .provisional → pt.code = rec.strip.code →
      offering ((List.finRange 12).filterMap fun v =>
        match x.verdicts.get v with
        | .actionHigh => offer v .action
        | .actionLow => offer v .action
        | .warnHigh => offer v .warn
        | .warnLow => offer v .warn
        | .inside => if pt.verdicts.get v = .inside then none else offer v .recovered)) ∧
    (pt.state = .provisional → pt.code ≠ rec.strip.code → ∀ largest : Nat,
      (∃ v, (x.deviations.get v - pt.deviations.get v).natAbs = largest) →
      (∀ v, (x.deviations.get v - pt.deviations.get v).natAbs ≤ largest) →
      offering (if s.day.desk.tolerance < largest then
        [⟨⟨.line rec.strip.line, none⟩, .crossover, rec.day, some (largest : Int)⟩] else [])) ∧
    (pt.state = .void → offering [])

/-- The density of a count: BRIGHT at or above the open count, OPAQUE at 0 and above 4000, and otherwise the whole number
d with 10^((d − 0.5)/1000) ≤ o/n < 10^((d + 0.5)/1000) (R9). -/
def Obligations.DensityConversion : Prop :=
  (∀ (opens : Table Nat 3) (counts : Table Nat 12) (ch : Fin 3) (j : Fin 4),
    (convertAll opens counts).get ⟨4 * ch.val + j.val, by omega⟩ =
      convert (opens.get ch) (counts.get ⟨4 * ch.val + j.val, by omega⟩)) ∧
  ∀ o n : Nat, 1024 ≤ o → o ≤ 65535 → n ≤ 65535 →
    (o ≤ n → convert o n = ⟨0, .bright⟩) ∧ (n = 0 → convert o n = ⟨4000, .opaqued⟩) ∧
    ∀ d : Nat, 0 < n → n < o → (10 : ℝ) ^ (((d : ℝ) - 1 / 2) / 1000) ≤ (o : ℝ) / n →
      (o : ℝ) / n < (10 : ℝ) ^ (((d : ℝ) + 1 / 2) / 1000) →
      (4000 < d → convert o n = ⟨4000, .opaqued⟩) ∧ (d ≤ 4000 → convert o n = ⟨d, .unmarked⟩)

/-- The control values of the readings of channel c, and the deviation of a value: measured less reference, active
correction and aim offset, limited to −4000 to 4000 (R11, R12); a strip is DOUBTFUL when a BASE, LOW or HIGH reading is
marked, the last reading of a channel not counting (R10). -/
def Obligations.ControlValuesAndDeviations : Prop :=
  (∀ (st : Strip) (l : Lot) (part : AimPart),
    (∀ ch : Fin 3,
      let d := fun (j : Fin 4) => (st.readings.get ⟨4 * ch.val + j.val, by omega⟩).density
      let v := fun (j : Fin 4) => (compute st l part).values.get ⟨4 * ch.val + j.val, by omega⟩
      v 0 = (d 0 : Int) ∧ v 1 = (d 1 : Int) - d 0 ∧ v 2 = (d 2 : Int) - d 1 ∧ v 3 = (d 3 : Int)) ∧
    ∀ v, let raw := (compute st l part).values.get v - l.refs.get v - l.active.get v - (part.aims.get v).offset
      (raw < -4000 → (compute st l part).deviations.get v = -4000) ∧
      (-4000 ≤ raw → raw ≤ 4000 → (compute st l part).deviations.get v = raw) ∧
      (4000 < raw → (compute st l part).deviations.get v = 4000)) ∧
  ∀ rs : Table Reading 12, doubtfulOf rs = true ↔
    ∃ (ch : Fin 3) (j : Fin 3), (rs.get ⟨4 * ch.val + j.val, by omega⟩).mark ≠ .unmarked

/-- The verdict of a deviation or residual is its band under the limits, each verdict has its direction, and a strip's
provisional verdicts are those of its deviations under the active limits (R13, R14, R15, R50). -/
def Obligations.VerdictBandsAndDirections : Prop :=
  (∀ (aims : Table ValueAim 12) (ds : Table Int 12) (v : Fin 12), (aims.get v).valid = true →
    let a := aims.get v
    let d := ds.get v
    let verdict := (verdictsOf aims ds).get v
    (a.ua ≤ d → verdict = .actionHigh) ∧ (a.uw ≤ d → d < a.ua → verdict = .warnHigh) ∧
    (a.lw < d → d < a.uw → verdict = .inside) ∧ (a.la < d → d ≤ a.lw → verdict = .warnLow) ∧
    (d ≤ a.la → verdict = .actionLow) ∧
    (verdict.side = some .high ↔ verdict = .warnHigh ∨ verdict = .actionHigh) ∧
    (verdict.side = some .low ↔ verdict = .warnLow ∨ verdict = .actionLow) ∧
    (verdict.side = none ↔ verdict = .inside)) ∧
  ∀ (st : Strip) (l : Lot) (part : AimPart),
    (compute st l part).verdicts = verdictsOf part.aims (compute st l part).deviations

/-- The update of a trend filter with the residual of a counted point: the run by its sign, the slope by the last
residual, counts within 0 to 9 and 0 to 8 (R83, R84), and the finalisation that feeds a counted point and no other
(R131). -/
def Obligations.TrendFilterUpdate : Prop :=
  ∀ (f : Filter) (r : Int),
    (0 < r → f.run = .positive → (f.feed r).run = .positive ∧ (f.feed r).runCount = satSucc 9 f.runCount) ∧
    (0 < r → f.run ≠ .positive → (f.feed r).run = .positive ∧ (f.feed r).runCount = 1) ∧
    (r < 0 → f.run = .negative → (f.feed r).run = .negative ∧ (f.feed r).runCount = satSucc 9 f.runCount) ∧
    (r < 0 → f.run ≠ .negative → (f.feed r).run = .negative ∧ (f.feed r).runCount = 1) ∧
    (r = 0 → (f.feed r).run = .flat ∧ (f.feed r).runCount = 0) ∧
    (f.last = none → (f.feed r).slope = .flat ∧ (f.feed r).slopeCount = 1) ∧
    (∀ q, f.last = some q → q < r → f.slope = .up →
      (f.feed r).slope = .up ∧ (f.feed r).slopeCount = satSucc 8 f.slopeCount) ∧
    (∀ q, f.last = some q → q < r → f.slope ≠ .up → (f.feed r).slope = .up ∧ (f.feed r).slopeCount = 2) ∧
    (∀ q, f.last = some q → r < q → f.slope = .down →
      (f.feed r).slope = .down ∧ (f.feed r).slopeCount = satSucc 8 f.slopeCount) ∧
    (∀ q, f.last = some q → r < q → f.slope ≠ .down → (f.feed r).slope = .down ∧ (f.feed r).slopeCount = 2) ∧
    (∀ q, f.last = some q → r = q → (f.feed r).slope = .flat ∧ (f.feed r).slopeCount = 1) ∧
    (f.feed r).last = some r ∧
    (∀ n, satSucc 9 n = if n < 9 then n + 1 else n) ∧ (∀ n, satSucc 8 n = if n < 8 then n + 1 else n) ∧
    (f.runCount ≤ 9 → f.slopeCount ≤ 8 → (f.feed r).runCount ≤ 9 ∧ (f.feed r).slopeCount ≤ 8) ∧
    ∀ (c : LineCtx) (pt : Point) (res : Table Int 12) (fin : Table Verdict 12) (shift : Fin 12 → Option Int) (v : Fin 12),
      (c.finalised pt res fin shift).filters.get v =
        if pt.settling = false ∧ pt.doubtful = false then (c.filters.get v).feed (res.get v) else c.filters.get v

/-! ### The day -/

/-- CLOSE-DAY: its four checks in order, and the taking of a request: the day advances, the timer and the first-close
flag clear, LEADER raises CLOSE-OUT, every calibration expires and the drain count is set (R121, R124). That the totals
for the summary are zeroed here is the model's choice (log 27). -/
def Obligations.CloseDayCommand : Prop :=
  ∀ (p : Port) (s : State), s.executes p .closeDay [] → s.permits p .closeDay none →
    let d := s.day
    let early := d.firstClose = false ∧ d.timer * 100 < d.desk.length * (100 - d.desk.window)
    (d.desk.mode = .follower → exec (.closeDay p) s = .next (s.answer p Command.closeDay.code .state [])) ∧
    (d.desk.mode ≠ .follower → d.state ≠ .dayOpen →
      exec (.closeDay p) s = .next (s.answer p Command.closeDay.code .busy [])) ∧
    (d.desk.mode ≠ .follower → d.state = .dayOpen → 65535 ≤ d.number →
      exec (.closeDay p) s = .next (s.answer p Command.closeDay.code .range [])) ∧
    (d.desk.mode ≠ .follower → d.state = .dayOpen → d.number < 65535 → early →
      exec (.closeDay p) s = .next (s.answer p Command.closeDay.code .early [])) ∧
    (d.desk.mode ≠ .follower → d.state = .dayOpen → d.number < 65535 → ¬ early →
      exec (.closeDay p) s =
        .next ({ s with
          readers := s.readers.map fun (r : Reader) => { r with cal := Calibration.uncalibrated }
          drain := s.queue.length
          day := { d with
            number := d.number + 1, timer := 0, firstClose := false, last := some ⟨d.number, .port p⟩
            closeOut := d.closeOut || decide (d.desk.mode = DayMode.leader), tally := ⟨0, 0, 0, 0, 0⟩
            state := if s.queue.length = 0 then .closing (.consensus 0) else .draining } }.answer p
          Command.closeDay.code .ok (bytes16 d.number)))

/-- A CLOSE-IN edge is taken, missed or ignored by the mode and the day state; the timer counts to L and its expiry is
taken in OPEN; the CLOSE-OUT pulse ends (R118, R122, R123, R124, R126). Where a row's condition does not hold the state
is unchanged by the model's choice (log 2), and the zeroed totals are its choice too (log 27). -/
def Obligations.EdgesTicksAndExpiry : Prop :=
  ∀ s : State,
    let d := s.day
    let taken := fun (cause : CloseCause) =>
      { s with
        readers := s.readers.map fun (r : Reader) => { r with cal := Calibration.uncalibrated }
        drain := s.queue.length
        day := { d with
          number := d.number + 1, timer := 0, firstClose := false, last := some ⟨d.number, cause⟩
          closeOut := d.closeOut || decide (d.desk.mode = DayMode.leader), tally := ⟨0, 0, 0, 0, 0⟩
          state := if s.queue.length = 0 then .closing (.consensus 0) else .draining } }
    (d.desk.mode ≠ .follower → exec .closeInEdge s = .next s) ∧
    (d.desk.mode = .follower → d.state = .dayOpen → d.number < 65535 → exec .closeInEdge s = .next (taken .edge)) ∧
    (d.desk.mode = .follower → (d.state ≠ .dayOpen ∨ 65535 ≤ d.number) →
      exec .closeInEdge s = .next (s.setDay { d with missedEdge := true })) ∧
    (s.store.loading = false → d.number < 65535 → d.timer < d.desk.length →
      exec .dayTimerTick s = .next (s.setDay { d with timer := d.timer + 1 })) ∧
    (s.store.loading = true ∨ 65535 ≤ d.number ∨ d.desk.length ≤ d.timer → exec .dayTimerTick s = .next s) ∧
    (d.desk.length ≤ d.timer → d.state = .dayOpen → d.number < 65535 →
      exec .dayTimerExpiry s = .next (taken .expiry)) ∧
    (d.timer < d.desk.length ∨ d.state ≠ .dayOpen ∨ 65535 ≤ d.number → exec .dayTimerExpiry s = .next s) ∧
    exec .closeOutPulseEnd s = .next (s.setDay { d with closeOut := false })

/-- The consensus step of a slot: an EMPTY one and one without participants keep what they hold; the participants are the
PROVISIONAL points of the closing day that belong to the slot and are neither settling nor DOUBTFUL, in line order; the
record is replaced, a shift is declared exactly under the quorum and the share with the mean of its agreeing participants
as its magnitude, the proposal takes each declared shift, each is offered as LOT-DRIFT in value order and counted, and
nothing else changes (R102, R111, R113, R128, R129). -/
def Obligations.ConsensusStep : Prop :=
  ∀ (s : State) (k : Fin 16) (next : DayState), s.day.state = .closing (.consensus k) →
    (k.val = 15 → next = .closing (.finalisation 0)) → (∀ h : k.val + 1 < 16, next = .closing (.consensus ⟨k.val + 1, h⟩)) →
    (s.lot k = none → exec .consensusStep s = .next (s.setDay { s.day with state := next })) ∧
    ∀ l, s.lot k = some l →
      let pts := (List.finRange 96).filterMap fun n => (s.line n).bind fun (c : LineCtx) =>
        (c.ring.find? fun (q : Point) => decide (q.day = s.day.closingDay)).filter fun (q : Point) =>
          decide (q.state = .provisional ∧ q.slot = k ∧ q.code = l.code ∧ c.kind = l.kind ∧ q.settling = false ∧
            q.doubtful = false)
      let shift := fun (v : Fin 12) => declared s.day.desk pts v
      let high := fun (v : Fin 12) =>
        pts.filter fun (q : Point) => decide (q.verdicts.get v = .warnHigh ∨ q.verdicts.get v = .actionHigh)
      let low := fun (v : Fin 12) =>
        pts.filter fun (q : Point) => decide (q.verdicts.get v = .warnLow ∨ q.verdicts.get v = .actionLow)
      let need := s.day.desk.share * pts.length
      let mean := fun (qs : List Point) (v : Fin 12) =>
        Int.tdiv ((qs.map fun (q : Point) => q.deviations.get v).sum) qs.length
      (∀ (v : Fin 12) (m : Int),
        (shift v = some ⟨.high, m⟩ ↔ s.day.desk.quorum ≤ pts.length ∧ need ≤ (high v).length * 100 ∧
          (low v).length * 100 < need ∧ m = mean (high v) v) ∧
        (shift v = some ⟨.low, m⟩ ↔ s.day.desk.quorum ≤ pts.length ∧ need ≤ (low v).length * 100 ∧
          (high v).length * 100 < need ∧ m = mean (low v) v)) ∧
      (pts = [] → exec .consensusStep s = .next (s.setDay { s.day with state := next })) ∧
      (pts ≠ [] → ∃ record : ShiftRecord,
        record.day = s.day.closingDay ∧
        (∀ v, (record.entries.get v).shift = shift v ∧ (record.entries.get v).participants = pts.length ∧
          (record.entries.get v).agreeing =
            match shift v with
            | some ⟨.high, _⟩ => (high v).length
            | some ⟨.low, _⟩ => (low v).length
            | none => max (high v).length (low v).length) ∧
        exec .consensusStep s = .next (((s.setLot k (some { l with
            shift := some record
            proposal := if (List.finRange 12).all fun v => (shift v).isNone then l.proposal
              else some (Table.ofFn fun v =>
                match shift v with
                | some x => some (max (-500) (min 500 (l.active.get v + x.magnitude)))
                | none => l.proposal.bind fun q => q.get v) })).offerAll
          ((List.finRange 12).filterMap fun v => (shift v).map fun (x : Shift) =>
            (⟨⟨.lot k, some v⟩, .lotDrift, s.day.closingDay, some x.magnitude⟩ : Offer))).setDay
          { s.day with state := next, tally := { s.day.tally with
              shifts := s.day.tally.shifts + ((List.finRange 12).filter fun v => (shift v).isSome).length } }))

/-- The finalisation step of a line with a PROVISIONAL point of the closing day: residuals, final verdicts, the
lot-attributed set, the line's state and the tally; any other line is passed over. The point takes the shift of its lot
slot exactly when it still belongs to the slot, the record is of its closing day and the shift has the direction of its
provisional verdict (R102, R130). Each value, in order, offers the first that applies of WARN-PAIR and TREND, for a
counted point, and LOT-ATTRIBUTED (R131), TREND when its filter's update reaches the run or slope length (R85). -/
def Obligations.FinalisationStep : Prop :=
  ∀ (s : State) (n : Fin 96) (next : DayState), s.day.state = .closing (.finalisation n) →
    (n.val = 95 → next = .closing (.overdue 0)) →
    (∀ h : n.val + 1 < 96, next = .closing (.finalisation ⟨n.val + 1, h⟩)) →
    (s.line n = none → exec .finalisationStep s = .next (s.setDay { s.day with state := next })) ∧
    ∀ c, s.line n = some c →
      ((∀ q ∈ c.ring, q.day = s.day.closingDay → q.state ≠ .provisional) →
        exec .finalisationStep s = .next (s.setDay { s.day with state := next })) ∧
      ∀ before pt after, c.ring = before ++ pt :: after → (∀ q ∈ before ++ after, q.day ≠ s.day.closingDay) →
        pt.day = s.day.closingDay → pt.state = .provisional →
        let shift := appliedShift (s.lot pt.slot) c pt s.day.closingDay
        (∀ v m, shift v = some m ↔ ∃ l r x, s.lot pt.slot = some l ∧ pt.code = l.code ∧ c.kind = l.kind ∧
          l.shift = some r ∧ r.day = s.day.closingDay ∧ (r.entries.get v).shift = some x ∧
          (pt.verdicts.get v).side = some x.side ∧ x.magnitude = m) ∧
        let part := (s.aim c.aim).active
        let res := Table.ofFn fun v => pt.deviations.get v - (shift v).getD 0
        let finals := verdictsOf part.aims res
        let counted := pt.settling = false ∧ pt.doubtful = false
        let pairs := fun (v : Fin 12) =>
          (finals.get v = .warnHigh ∧ (c.warn.get v = some .warnHigh ∨ c.warn.get v = some .actionHigh)) ∨
          (finals.get v = .warnLow ∧ (c.warn.get v = some .warnLow ∨ c.warn.get v = some .actionLow))
        let reaches := fun (v : Fin 12) =>
          let f := c.filters.get v
          let g := f.feed (res.get v)
          (f.runCount < part.run ∧ g.runCount = part.run) ∨ (f.slopeCount < part.slope ∧ g.slopeCount = part.slope)
        let offer := fun (v : Fin 12) (kind : AlertKind) (amount : Int) =>
          (⟨⟨.line n, some v⟩, kind, s.day.closingDay, some amount⟩ : Offer)
        exec .finalisationStep s = .next (((s.setLine n (some { c with
            state := if c.state = .enrolled then .active else c.state
            ring := before ++ { pt with state := .final res finals (Table.ofFn fun v => (shift v).isSome) } :: after
            filters := if counted then Table.ofFn fun v => (c.filters.get v).feed (res.get v) else c.filters
            warn := if counted then Table.ofFn fun v => some (finals.get v) else c.warn })).offerAll
          ((List.finRange 12).filterMap fun v =>
            if counted ∧ pairs v then some (offer v .warnPair (res.get v))
            else if counted ∧ reaches v then some (offer v .trend (res.get v))
            else if finals.get v = .inside then (shift v).map (offer v .lotAttributed)
            else none)).setDay
          { s.day with state := next, tally := { s.day.tally with points := s.day.tally.points + 1 } })

/-- The overdue step counts an ACTIVE or OVERDUE line without a point of the closing day, and the countdown step a RETIRING
slot; the last countdown step begins the transfer stage, which waits while the store is SAVING (R70, R106, R132, R133). -/
def Obligations.OverdueAndCountdownSteps : Prop :=
  ∀ (s : State) (next : DayState),
    (∀ (n : Fin 96) (c : LineCtx), s.day.state = .closing (.overdue n) → (n.val = 95 → next = .closing (.countdown 0)) →
      (∀ h : n.val + 1 < 96, next = .closing (.overdue ⟨n.val + 1, h⟩)) → s.line n = some c →
      let misses := (c.state = .active ∨ c.state = .overdue) ∧ ∀ q ∈ c.ring, q.day ≠ s.day.closingDay
      let count := if c.missed < 255 then c.missed + 1 else c.missed
      (¬ misses → exec .overdueStep s = .next (s.setDay { s.day with state := next })) ∧
      (misses → (c.state = .overdue ∨ count < s.day.desk.overdueLimit) →
        exec .overdueStep s =
          .next ((s.setLine n (some { c with missed := count })).setDay { s.day with state := next })) ∧
      (misses → c.state = .active → s.day.desk.overdueLimit ≤ count → ∃ t, exec .overdueStep s = .next t ∧
        t = ((((s.setLine n (some { c with missed := count, state := .overdue })).offer
            (⟨⟨.line n, none⟩, .overdue, s.day.closingDay, none⟩ : Offer))).setDay
          { s.day with state := next, tally := { s.day.tally with overdue := s.day.tally.overdue + 1 } }))) ∧
    (∀ k : Fin 16, s.day.state = .closing (.countdown k) →
      (k.val = 15 → next = if s.store.isSaving then .transferWait else .closing (.transferAim 0)) →
      (∀ h : k.val + 1 < 16, next = .closing (.countdown ⟨k.val + 1, h⟩)) →
      (s.lot k = none → exec .countdownStep s = .next (s.setDay { s.day with state := next })) ∧
      ∀ l, s.lot k = some l →
        (∀ left, l.state = .retiring left → 1 ≤ left →
          exec .countdownStep s =
            .next ((s.setLot k (some { l with state := if left = 1 then .retired else .retiring (left - 1) })).setDay
              { s.day with state := next })) ∧
        ((∀ left, l.state ≠ .retiring left) →
          exec .countdownStep s = .next (s.setDay { s.day with state := next }))) ∧
    ∀ (n : Fin 96), s.day.state = .closing (.overdue n) → (n.val = 95 → next = .closing (.countdown 0)) →
      (∀ h : n.val + 1 < 96, next = .closing (.overdue ⟨n.val + 1, h⟩)) → s.line n = none →
      exec .overdueStep s = .next (s.setDay { s.day with state := next })

/-- The transfer step of an aim set or a slot: nothing to transfer, deferred while a port holds it, or its pending part
copied into its active part; each is counted (R134). The summary of the pass is then written, the day returns to OPEN and
CLOSE is requested at both ports (R135). -/
def Obligations.TransferStepsAndSummary : Prop :=
  (∀ (s : State) (close : LastClose), s.day.state = .closing .summary → s.day.last = some close →
    exec .summary s =
      .next { s with
        day := { s.day with state := .dayOpen, summary := some ⟨close, s.day.tally⟩ }
        mp0 := { s.mp0 with closeFlag := true }, mp1 := { s.mp1 with closeFlag := true } }) ∧
  ∀ (s : State) (next : DayState) (k : Fin 16),
    let tally := fun (done deferred : Nat) =>
      { s.day with
        state := next
        tally := { s.day.tally with done := s.day.tally.done + done, deferred := s.day.tally.deferred + deferred } }
    (s.day.state = .closing (.transferAim k) → (k.val = 15 → next = .closing (.transferLot 0)) →
      (∀ h : k.val + 1 < 16, next = .closing (.transferAim ⟨k.val + 1, h⟩)) →
      ((s.aim k).active = (s.aim k).pending → exec .transferStep s = .next (s.setDay (tally 0 0))) ∧
      ((s.aim k).active ≠ (s.aim k).pending → s.holder (.aim k) ≠ none →
        exec .transferStep s = .next (s.setDay (tally 0 1))) ∧
      ((s.aim k).active ≠ (s.aim k).pending → s.holder (.aim k) = none →
        exec .transferStep s =
          .next ((s.setAim k { s.aim k with active := (s.aim k).pending }).setDay (tally 1 0)))) ∧
    (s.day.state = .closing (.transferLot k) → (k.val = 15 → next = .closing .summary) →
      (∀ h : k.val + 1 < 16, next = .closing (.transferLot ⟨k.val + 1, h⟩)) →
      (s.lot k = none → exec .transferStep s = .next (s.setDay (tally 0 0))) ∧
      ∀ l, s.lot k = some l →
        (l.active = l.pending → exec .transferStep s = .next (s.setDay (tally 0 0))) ∧
        (l.active ≠ l.pending → s.holder (.lot k) ≠ none → exec .transferStep s = .next (s.setDay (tally 0 1))) ∧
        (l.active ≠ l.pending → s.holder (.lot k) = none →
          exec .transferStep s = .next ((s.setLot k (some { l with active := l.pending })).setDay (tally 1 0))))

/-! ### Lines -/

/-- ENROLL-LINE: what it refuses, in the order of R64, and the lowest UNUSED line not held by the other port. -/
def Obligations.EnrollLine : Prop :=
  ∀ (s : State) (p : Port) (a b q m : Byte), s.executes p .enrollLine [a, b, q, m] →
    let answers := fun st => exec (.enrollLine p) s = .next (s.answer p Command.enrollLine.code st [])
    (kindOf q ≠ none → (nat16 a b = 0 ∨ nat16 a b = 65535 ∨ 16 ≤ m.toNat) → answers .range) ∧
    (1 ≤ nat16 a b → nat16 a b ≤ 65534 → m.toNat < 16 → kindOf q = none → answers .badParam) ∧
    ∀ (kind : ProcessKind) (k : Fin 16), 1 ≤ nat16 a b → nat16 a b ≤ 65534 → kindOf q = some kind → m.toNat = k.val →
      (s.store.loading = false → s.store.isSaving = false → 3 ≤ s.level → answers .locked) ∧
      (s.permits p .enrollLine none →
        (s.findLine (nat16 a b) kind ≠ none → answers .duplicate) ∧
        (s.findLine (nat16 a b) kind = none → (s.aim k).kind ≠ kind → answers .state) ∧
        (s.findLine (nat16 a b) kind = none → (s.aim k).kind = kind → (∀ n, s.line n ≠ none) → answers .full) ∧
        (s.findLine (nat16 a b) kind = none → (s.aim k).kind = kind → (∃ n, s.line n = none) →
          (∀ n, s.line n = none → s.holder (.line n) = some (otherPort p)) → answers .held) ∧
        ∀ n, s.findLine (nat16 a b) kind = none → (s.aim k).kind = kind → s.line n = none →
          s.holder (.line n) ≠ some (otherPort p) →
          (∀ j, j < n → s.line j = none → s.holder (.line j) = some (otherPort p)) →
          exec (.enrollLine p) s =
            .next ({ s.setLine n (some
                { state := .enrolled, lab := nat16 a b, kind := kind, aim := k, epoch := 0, epochPoints := 0, missed := 0
                  filters := Table.fill 12 ⟨.flat, 0, .flat, 0, none⟩, warn := Table.fill 12 none, ring := []
                  waiting := Table.fill 13 none }) with
              labMap := s.labMap ++ [(⟨nat16 a b, kind, n⟩ : MapEntry)] }.answer p Command.enrollLine.code .ok [byte n.val]))

/-- SUSPEND-LINE, RESUME-LINE, SET-LINE-AIM, CHEM-EVENT and VOID-POINT: an UNUSED line is refused; on any other, what each
refuses and the fields it changes, every other field staying (R66, R67, R74, R81, R82, R97). -/
def Obligations.LineEdits : Prop :=
  ∀ (s : State) (p : Port) (n : Fin 96),
    let done := fun (code : Byte) (c' : LineCtx) => Host.Outcome.next (φ := Fault) (ρ := Refusal)
      ((s.setLine n (some c')).answer p code .ok [])
    let refused := fun (code : Byte) (st : Status) => Host.Outcome.next (φ := Fault) (ρ := Refusal)
      (s.answer p code st [])
    (s.line n = none →
      (s.executes p .suspendLine [byte n.val] → s.permits p .suspendLine (some (.line n)) →
        exec (.suspendLine p) s = refused Command.suspendLine.code .state) ∧
      (s.executes p .resumeLine [byte n.val] → s.permits p .resumeLine (some (.line n)) →
        exec (.resumeLine p) s = refused Command.resumeLine.code .state) ∧
      (∀ k : Fin 16, s.executes p .setLineAim [byte n.val, byte k.val] → s.permits p .setLineAim (some (.line n)) →
        exec (.setLineAim p) s = refused Command.setLineAim.code .state) ∧
      (∀ e : Byte, e = 1 ∨ e = 2 → s.executes p .chemEvent [byte n.val, e] → s.permits p .chemEvent none →
        s.holder (.line n) ≠ some (otherPort p) → exec (.chemEvent p) s = refused Command.chemEvent.code .state) ∧
      ∀ a b : Byte, s.executes p .voidPoint [byte n.val, a, b] → s.permits p .voidPoint (some (.line n)) →
        exec (.voidPoint p) s = refused Command.voidPoint.code .state) ∧
    ∀ c : LineCtx, s.line n = some c →
    (s.executes p .suspendLine [byte n.val] → s.permits p .suspendLine (some (.line n)) →
      (c.state = .suspended → exec (.suspendLine p) s = refused Command.suspendLine.code .state) ∧
      (c.state ≠ .suspended →
        exec (.suspendLine p) s = done Command.suspendLine.code { c with state := .suspended })) ∧
    (s.executes p .resumeLine [byte n.val] → s.permits p .resumeLine (some (.line n)) →
      (c.state ≠ .suspended → exec (.resumeLine p) s = refused Command.resumeLine.code .state) ∧
      (c.state = .suspended →
        exec (.resumeLine p) s = done Command.resumeLine.code { c with
          state := .enrolled, missed := 0, filters := Table.fill 12 ⟨.flat, 0, .flat, 0, none⟩
          warn := Table.fill 12 none })) ∧
    (∀ k : Fin 16, s.executes p .setLineAim [byte n.val, byte k.val] → s.permits p .setLineAim (some (.line n)) →
      (c.kind ≠ (s.aim k).kind → exec (.setLineAim p) s = refused Command.setLineAim.code .state) ∧
      (c.kind = (s.aim k).kind → exec (.setLineAim p) s = done Command.setLineAim.code { c with aim := k })) ∧
    (∀ e : Byte, s.executes p .chemEvent [byte n.val, e] → s.permits p .chemEvent none →
      (e = 1 ∨ e = 2 → s.holder (.line n) = some (otherPort p) →
        exec (.chemEvent p) s = refused Command.chemEvent.code .held) ∧
      (e = 1 ∨ e = 2 → s.holder (.line n) ≠ some (otherPort p) → c.state = .suspended →
        exec (.chemEvent p) s = refused Command.chemEvent.code .state) ∧
      (e = 1 → s.holder (.line n) ≠ some (otherPort p) → c.state ≠ .suspended →
        exec (.chemEvent p) s = done Command.chemEvent.code { c with
          epoch := c.epoch + 1, epochPoints := 0, filters := Table.fill 12 ⟨.flat, 0, .flat, 0, none⟩
          warn := Table.fill 12 none }) ∧
      (e = 2 → s.holder (.line n) ≠ some (otherPort p) → c.state ≠ .suspended →
        exec (.chemEvent p) s = done Command.chemEvent.code { c with
          filters := Table.fill 12 ⟨.flat, 0, .flat, 0, none⟩ })) ∧
    ∀ a b : Byte, s.executes p .voidPoint [byte n.val, a, b] → s.permits p .voidPoint (some (.line n)) →
      ((∀ q ∈ c.ring, q.day ≠ nat16 a b) → exec (.voidPoint p) s = refused Command.voidPoint.code .notFound) ∧
      ∀ before pt after, c.ring = before ++ pt :: after → pt.day = nat16 a b →
        (∀ q ∈ before ++ after, q.day ≠ nat16 a b) →
        (pt.state = .void → exec (.voidPoint p) s = refused Command.voidPoint.code .state) ∧
        (pt.state ≠ .void →
          exec (.voidPoint p) s =
            done Command.voidPoint.code { c with ring := before ++ { pt with state := .void } :: after })

/-- WITHDRAW-LINE on a SUSPENDED line: its waiting kinds are cleared, the entries that name it leave oldest first, each
departure with its moving in (`State.depart`, which OfferCases gives), its map entry goes and it is UNUSED; its hold
stays, and nothing else but other alerts changes; in any other state it is refused (R68, R145). -/
def Obligations.WithdrawLine : Prop :=
  ∀ (s : State) (p : Port) (n : Fin 96), s.executes p .withdrawLine [byte n.val] →
    s.permits p .withdrawLine (some (.line n)) →
    (s.line n = none → exec (.withdrawLine p) s = .next (s.answer p Command.withdrawLine.code .state [])) ∧
    ∀ c, s.line n = some c →
    (c.state ≠ .suspended →
      exec (.withdrawLine p) s = .next (s.answer p Command.withdrawLine.code .state [])) ∧
    (c.state = .suspended → ∃ t, exec (.withdrawLine p) s = .next t ∧ t.line n = none ∧
      t.quiet = ({ s.setLine n none with labMap := s.labMap.filter fun e => e.line != n }.answer p
        Command.withdrawLine.code .ok []).quiet ∧
      ((s.alerts.map AlertEntry.number).Nodup → ∀ e ∈ t.alerts, e.key.subject ≠ .line n) ∧
      let leaving := (s.alerts.filter fun (e : AlertEntry) => e.key.subject == .line n).map AlertEntry.number
      let rid := leaving.foldl State.depart (s.setLine n (some { c with waiting := Table.fill 13 none }))
      t = { rid.setLine n none with labMap := s.labMap.filter fun e => e.line != n }.answer p
        Command.withdrawLine.code .ok [])

/-! ### Aim sets -/

/-- WRITE-AIM and WRITE-AIM-RULES: the part as it would stand is validated whole, and the fields go to the pending part with
preload ON and to both parts with preload OFF; the kind changes only while no line names the set (R91 to R93). -/
def Obligations.AimWrites : Prop :=
  ∀ (s : State) (p : Port) (k : Fin 16),
    let a := s.aim k
    (∀ (v : Fin 12) (o1 o2 a1 a2 b1 b2 c1 c2 d1 d2 : Byte),
      let x : ValueAim := ⟨int16 o1 o2, int16 a1 a2, int16 b1 b2, int16 c1 c2, int16 d1 d2⟩
      let put := fun (q : AimPart) => { q with aims := q.aims.set v x }
      s.executes p .writeAim [byte k.val, byte v.val, o1, o2, a1, a2, b1, b2, c1, c2, d1, d2] →
      s.permits p .writeAim (some (.aim k)) →
      ((put (if a.preload then a.pending else a.active)).valid = false →
        exec (.writeAim p) s = .next (s.answer p Command.writeAim.code .range [])) ∧
      (a.preload = true → (put a.pending).valid = true →
        exec (.writeAim p) s =
          .next ((s.setAim k { a with pending := put a.pending }).answer p Command.writeAim.code .ok [])) ∧
      (a.preload = false → (put a.active).valid = true →
        exec (.writeAim p) s =
          .next ((s.setAim k { a with active := put a.active, pending := put a.pending }).answer p
            Command.writeAim.code .ok []))) ∧
    ∀ (kind : ProcessKind) (r l c : Byte),
      let put := fun (q : AimPart) => { q with run := r.toNat, slope := l.toNat, settling := c.toNat }
      s.executes p .writeAimRules [byte k.val, kind.code, r, l, c] → s.permits p .writeAimRules (some (.aim k)) →
      ((put (if a.preload then a.pending else a.active)).valid = false →
        exec (.writeAimRules p) s = .next (s.answer p Command.writeAimRules.code .range [])) ∧
      ((put (if a.preload then a.pending else a.active)).valid = true → a.kind ≠ kind →
        (∃ n c', s.line n = some c' ∧ c'.aim = k) →
        exec (.writeAimRules p) s = .next (s.answer p Command.writeAimRules.code .state [])) ∧
      ((put (if a.preload then a.pending else a.active)).valid = true →
        (a.kind = kind ∨ ∀ n c', s.line n = some c' → c'.aim ≠ k) →
        exec (.writeAimRules p) s =
          .next ((s.setAim k { a with
            kind := kind, active := if a.preload then a.active else put a.active, pending := put a.pending }).answer p
            Command.writeAimRules.code .ok []))

/-- SET-PRELOAD and DISCARD-PENDING (R94, R95). -/
def Obligations.PreloadAndDiscard : Prop :=
  ∀ (s : State) (p : Port) (k : Fin 16),
    let a := s.aim k
    (s.executes p .setPreload [byte k.val, 0] → s.permits p .setPreload (some (.aim k)) →
      (a.preload = true →
        exec (.setPreload p) s =
          .next ((s.setAim k { a with active := a.pending, preload := false }).answer p Command.setPreload.code .ok [])) ∧
      (a.preload = false → exec (.setPreload p) s = .next (s.answer p Command.setPreload.code .ok []))) ∧
    (s.executes p .setPreload [byte k.val, 1] → s.permits p .setPreload (some (.aim k)) →
      exec (.setPreload p) s =
        .next ((s.setAim k { a with preload := true }).answer p Command.setPreload.code .ok [])) ∧
    (s.executes p .discardPending [byte k.val] → s.permits p .discardPending (some (.aim k)) →
      exec (.discardPending p) s =
        .next ((s.setAim k { a with pending := a.active }).answer p Command.discardPending.code .ok []))

/-! ### Lots -/

/-- DEFINE-LOT on an EMPTY slot with a free code, and its refusals (R104). MAKE-CURRENT: the named slot becomes CURRENT,
the predecessor of its process kind RETIRING for the crossover days; it is refused unless the slot is DEFINED and the
predecessor free of the other port (R105). -/
def Obligations.DefineLotAndMakeCurrent : Prop :=
  (∀ (s : State) (p : Port) (k : Fin 16) (code : Nat) (kind : ProcessKind) (refs : Table Int 12),
      1 ≤ code → code ≤ 4294967295 → (∀ v, -4000 ≤ refs.get v ∧ refs.get v ≤ 4000) →
      s.executes p .defineLot ([byte k.val] ++ bytes32 code ++ [kind.code] ++ refs.cells.flatMap signed16) →
      s.permits p .defineLot (some (.lot k)) →
      (s.lot k ≠ none → exec (.defineLot p) s = .next (s.answer p Command.defineLot.code .state [])) ∧
      (s.lot k = none → (∃ j l, s.lot j = some l ∧ l.code = code) →
        exec (.defineLot p) s = .next (s.answer p Command.defineLot.code .duplicate [])) ∧
      (s.lot k = none → (∀ j l, s.lot j = some l → l.code ≠ code) →
        exec (.defineLot p) s =
          .next ((s.setLot k (some
            { state := .defined, code := code, kind := kind, refs := refs, active := Table.fill 12 0
              pending := Table.fill 12 0, shift := none, proposal := none, waiting := Table.fill 12 none })).answer p
            Command.defineLot.code .ok []))) ∧
  ∀ (s : State) (p : Port) (k : Fin 16), s.executes p .makeCurrent [byte k.val] →
    s.permits p .makeCurrent (some (.lot k)) →
    (s.lot k = none → exec (.makeCurrent p) s = .next (s.answer p Command.makeCurrent.code .state [])) ∧
    ∀ l, s.lot k = some l →
      (l.state ≠ .defined → exec (.makeCurrent p) s = .next (s.answer p Command.makeCurrent.code .state [])) ∧
      (l.state = .defined → (∀ j m, s.lot j = some m → m.state = .current → m.kind ≠ l.kind) →
        exec (.makeCurrent p) s =
          .next ((s.setLot k (some { l with state := .current })).answer p Command.makeCurrent.code .ok [])) ∧
      ∀ j m, l.state = .defined → s.lot j = some m → m.state = .current → m.kind = l.kind →
        (∀ j' m', s.lot j' = some m' → m'.state = .current → m'.kind = l.kind → j' = j) →
        (s.holder (.lot j) = some (otherPort p) →
          exec (.makeCurrent p) s = .next (s.answer p Command.makeCurrent.code .held [])) ∧
        (s.holder (.lot j) ≠ some (otherPort p) →
          exec (.makeCurrent p) s =
            .next (((s.setLot j (some { m with state := .retiring s.day.desk.crossoverDays })).setLot k
              (some { l with state := .current })).answer p Command.makeCurrent.code .ok []))

/-- RETIRE-LOT, WRITE-CORRECTION, ADOPT-PROPOSAL and CLEAR-LOT (R107, R108, R110, R114). CLEAR-LOT clears the slot's
waiting kinds, its entries leave oldest first, each departure with its moving in, and the slot is EMPTY (R145). -/
def Obligations.LotEdits : Prop :=
  ∀ (s : State) (p : Port) (k : Fin 16),
    let done := fun (code : Byte) (l' : Lot) => Host.Outcome.next (φ := Fault) (ρ := Refusal)
      ((s.setLot k (some l')).answer p code .ok [])
    let refused := fun (code : Byte) (st : Status) => Host.Outcome.next (φ := Fault) (ρ := Refusal)
      (s.answer p code st [])
    let live := fun (l : Lot) => s.lot k = some l ∧ l.state ≠ .retired
    let dead := ∀ l, s.lot k = some l → l.state = .retired
    (s.executes p .retireLot [byte k.val] → s.permits p .retireLot (some (.lot k)) →
      (dead → exec (.retireLot p) s = refused Command.retireLot.code .state) ∧
      ∀ l, live l → exec (.retireLot p) s = done Command.retireLot.code { l with state := .retired }) ∧
    (∀ (v : Fin 12) (a b : Byte), s.executes p .writeCorrection [byte k.val, byte v.val, a, b] →
      s.permits p .writeCorrection (some (.lot k)) →
      (int16 a b < -500 ∨ 500 < int16 a b → exec (.writeCorrection p) s = refused Command.writeCorrection.code .range) ∧
      (-500 ≤ int16 a b → int16 a b ≤ 500 →
        (dead → exec (.writeCorrection p) s = refused Command.writeCorrection.code .state) ∧
        ∀ l, live l → exec (.writeCorrection p) s =
          done Command.writeCorrection.code { l with pending := l.pending.set v (int16 a b) })) ∧
    (s.executes p .adoptProposal [byte k.val] → s.permits p .adoptProposal (some (.lot k)) →
      (dead → exec (.adoptProposal p) s = refused Command.adoptProposal.code .state) ∧
      ∀ l, live l →
        (l.proposal = none → exec (.adoptProposal p) s = refused Command.adoptProposal.code .notFound) ∧
        ∀ q, l.proposal = some q → exec (.adoptProposal p) s =
          done Command.adoptProposal.code { l with
            pending := Table.ofFn fun v => (q.get v).getD (l.pending.get v), proposal := none }) ∧
    (s.executes p .clearLot [byte k.val] → s.permits p .clearLot (some (.lot k)) →
      (s.lot k = none → exec (.clearLot p) s = refused Command.clearLot.code .state) ∧
      (∀ l, live l → exec (.clearLot p) s = refused Command.clearLot.code .state) ∧
      ∀ l, s.lot k = some l → l.state = .retired → ∃ t, exec (.clearLot p) s = .next t ∧ t.lot k = none ∧
        t.quiet = ((s.setLot k none).answer p Command.clearLot.code .ok []).quiet ∧
        ((s.alerts.map AlertEntry.number).Nodup → ∀ e ∈ t.alerts, e.key.subject ≠ .lot k) ∧
        let leaving := (s.alerts.filter fun (e : AlertEntry) => e.key.subject == .lot k).map AlertEntry.number
        let rid := leaving.foldl State.depart (s.setLot k (some { l with waiting := Table.fill 12 none }))
        t = (rid.setLot k none).answer p Command.clearLot.code .ok [])

/-- WRITE-DESK replaces the eight settings in one event, and nothing else (R119). A mode that names none is answered
BAD-PARAM whatever the other settings are: that the mode is looked at before the ranges is the model's reading
(log 15). -/
def Obligations.WriteDesk : Prop :=
  ∀ (s : State) (p : Port),
    (∀ d : Desk, d.inRange = true → s.executes p .writeDesk d.bytes → s.permits p .writeDesk (some .desk) →
      exec (.writeDesk p) s =
        .next ((s.setDay { s.day with desk := d }).answer p Command.writeDesk.code .ok [])) ∧
    ∀ (l1 l2 w m q c t o x : Byte), s.executes p .writeDesk [l1, l2, w, m, q, c, t, o, x] →
      (3 ≤ m.toNat → exec (.writeDesk p) s = .next (s.answer p Command.writeDesk.code .badParam [])) ∧
      (m.toNat < 3 →
        (nat16 l1 l2 < 600 ∨ 2160 < nat16 l1 l2 ∨ w.toNat ∉ [25, 50, 75, 100] ∨ q.toNat < 3 ∨ 24 < q.toNat ∨
          c.toNat ∉ [50, 60, 75, 90] ∨ t.toNat < 10 ∨ 200 < t.toNat ∨ o.toNat < 1 ∨ 7 < o.toNat ∨ x.toNat < 1 ∨
          7 < x.toNat) →
        exec (.writeDesk p) s = .next (s.answer p Command.writeDesk.code .range []))

/-! ### Holds -/

/-- HOLD, RENEW and RELEASE by the holder of the item, and the end of a lease minute: a lease falls by one, and at the end
of its last minute the record goes and its owner's HOLD-LAPSE is set (R162, R163, R164). -/
def Obligations.HoldTable : Prop :=
  ∀ (s : State) (p : Port) (i : Item) (lease : Nat), 1 ≤ lease → lease ≤ 60 →
    let given := fun (c : Command) => s.executes p c (itemBytes i ++ [byte lease]) ∨
      (lease = 10 ∧ s.executes p c (itemBytes i ++ [0]))
    let renewed := { s with holds := s.holds.map fun (h : Hold) => if h.item = i then { h with lease := lease } else h }
    let freed := { s with holds := s.holds.filter fun (h : Hold) => h.item != i }
    (given .hold → s.permits p .hold none →
      (s.holder i = none → s.holds.length < 8 →
        exec (.hold p) s =
          .next ({ s with holds := s.holds ++ [(⟨i, p, lease⟩ : Hold)] }.answer p Command.hold.code .ok [byte lease])) ∧
      (s.holder i = none → 8 ≤ s.holds.length →
        exec (.hold p) s = .next (s.answer p Command.hold.code .holdFull [])) ∧
      (s.holder i = some p → exec (.hold p) s = .next (renewed.answer p Command.hold.code .ok [byte lease])) ∧
      (s.holder i = some (otherPort p) → exec (.hold p) s = .next (s.answer p Command.hold.code .held []))) ∧
    (given .renew → s.permits p .renew none →
      (s.holder i = some p → exec (.renew p) s = .next (renewed.answer p Command.renew.code .ok [byte lease])) ∧
      (s.holder i = some (otherPort p) → exec (.renew p) s = .next (s.answer p Command.renew.code .held [])) ∧
      (s.holder i = none → exec (.renew p) s = .next (s.answer p Command.renew.code .stale []))) ∧
    (s.executes p .release (itemBytes i) → s.permits p .release none →
      (s.holder i = some p → exec (.release p) s = .next (freed.answer p Command.release.code .ok [])) ∧
      (s.holder i = some (otherPort p) → exec (.release p) s = .next (s.answer p Command.release.code .held [])) ∧
      (s.holder i = none → exec (.release p) s = .next (s.answer p Command.release.code .stale []))) ∧
    (∀ l, s.holdOn i = some ⟨i, p, l⟩ →
      (2 ≤ l → exec (.leaseTick i) s =
        .next { s with holds := s.holds.map fun (h : Hold) => if h.item = i then { h with lease := l - 1 } else h }) ∧
      (l = 1 → exec (.leaseTick i) s = .next (freed.setPort p { s.port p with lapseFlag := true }) ∧
        exec (.leaseExpiry i) s = .next (freed.setPort p { s.port p with lapseFlag := true })) ∧
      (2 ≤ l → exec (.leaseExpiry i) s = .next s)) ∧
    (s.holdOn i = none → exec (.leaseTick i) s = .next s ∧ exec (.leaseExpiry i) s = .next s)

/-! ### Reads -/

/-- The reads: each returns its record and changes nothing but the port's own buffer; READ-READER and READ-DAY also clear
the flag they return (R37, R76 to R78, R99, R115, R137, R146, R167, R174). The layouts of the records, field by
field, stand in ReadDataLengths; they are the model's reading of R183 (log 17). -/
def Obligations.Reads : Prop :=
  ∀ (s : State) (p : Port),
    (∀ n : Fin 96, s.executes p .readLine [byte n.val] → s.permits p .readLine none →
      exec (.readLine p) s = .next (s.answer p Command.readLine.code .ok (lineRecord (s.line n)))) ∧
    (∀ (n : Fin 96) (age : Fin 20), s.executes p .readPoint [byte n.val, byte age.val] →
      s.permits p .readPoint none →
      (s.line n = none → exec (.readPoint p) s = .next (s.answer p Command.readPoint.code .state [])) ∧
      ∀ c, s.line n = some c →
        (c.ring.length ≤ age.val →
          exec (.readPoint p) s = .next (s.answer p Command.readPoint.code .notFound [])) ∧
        ∀ h : age.val < c.ring.length,
          exec (.readPoint p) s = .next (s.answer p Command.readPoint.code .ok
            (c.ring[c.ring.length - 1 - age.val]'(by omega)).bytes)) ∧
    (∀ n : Fin 96, s.executes p .readDrift [byte n.val] → s.permits p .readDrift none →
      (s.line n = none → exec (.readDrift p) s = .next (s.answer p Command.readDrift.code .state [])) ∧
      ∀ c, s.line n = some c →
        ((∀ q ∈ c.ring, q.state.isFinal = false) →
          exec (.readDrift p) s = .next (s.answer p Command.readDrift.code .nothing c.driftBytes)) ∧
        ∀ before q after, c.ring = before ++ q :: after → q.state.isFinal = true →
          (∀ x ∈ after, x.state.isFinal = false) →
          exec (.readDrift p) s = .next (s.answer p Command.readDrift.code .ok (q.driftBytes ++ c.driftBytes))) ∧
    (∀ k : Fin 16, s.executes p .readAims [byte k.val] → s.permits p .readAims none →
      exec (.readAims p) s = .next (s.answer p Command.readAims.code .ok
        ([(s.aim k).kind.code, flagByte (s.aim k).preload, flagByte (decide ((s.aim k).active ≠ (s.aim k).pending))] ++
          (s.aim k).active.bytes ++ (s.aim k).pending.bytes ++ [byte (s.linesNaming k)]))) ∧
    (∀ k : Fin 16, s.executes p .readLot [byte k.val] → s.permits p .readLot none →
      exec (.readLot p) s = .next (s.answer p Command.readLot.code .ok (lotRecord (s.lot k)))) ∧
    (s.executes p .readHolds [] → s.permits p .readHolds none →
      exec (.readHolds p) s = .next (s.answer p Command.readHolds.code .ok s.holdsRecord)) ∧
    (s.executes p .readStore [] →
      exec (.readStore p) s = .next (s.answer p Command.readStore.code .ok s.store.record)) ∧
    (s.executes p .readDay [] → s.permits p .readDay none →
      exec (.readDay p) s =
        .next ((s.setDay { s.day with missedEdge := false }).answer p Command.readDay.code .ok s.dayRecord)) ∧
    (∀ rl : Fin 4, s.executes p .readReader [byte rl.val] → s.permits p .readReader none →
      exec (.readReader p) s =
        .next ((s.setReader rl { s.reader rl with delta := false }).answer p Command.readReader.code .ok
          (s.reader rl).record)) ∧
    (s.executes p .nextAlert [] → s.permits p .nextAlert none →
      ((∀ e ∈ s.alerts, e.ports.has p = false) →
        exec (.nextAlert p) s = .next (s.answer p Command.nextAlert.code .nothing (s.alertCounts p))) ∧
      ∀ before e after, s.alerts = before ++ e :: after → (∀ x ∈ before, x.ports.has p = false) → e.ports.has p = true →
        exec (.nextAlert p) s = .next (s.answer p Command.nextAlert.code .ok (s.alertCounts p ++ e.bytes)))

/-- The layouts of the returned data (R183): the fields of each record in the order in which its rule lists them, every
quantity high byte first, an optional field behind its presence byte and sent as zero when absent, and each code as
R181 to R183 count it; and the data length of a read, which depends on the command and its status alone. The points R183
leaves open (the presence bytes of the newest point, of READ-POINT's residuals and verdicts, of a shift's magnitude, of a
fault record's origin and day, of the close stage and of the store's cause, none before the residuals and verdicts of
READ-DRIFT, a part, a shift record and the filters sent value by value, the sets of values, the place of the device
address, the order of the holds and their owner's code) stand as log 17 has them. -/
def Obligations.ReadDataLengths : Prop :=
  (∀ (s : State) (n : Fin 96) (k : Fin 16) (rl : Fin 4) (pt : Point) (c : LineCtx) (p : Port) (e : AlertEntry),
    (lineRecord (s.line n)).length = 43 ∧ pt.bytes.length = 324 ∧ c.driftBytes.length = 108 ∧ pt.driftBytes.length = 45 ∧
    (s.aim k).active.bytes.length = 123 ∧ (lotRecord (s.lot k)).length = 218 ∧ s.dayRecord.length = 34 ∧
    s.holdsRecord.length = 42 ∧ (s.reader rl).record.length = 33 ∧ s.store.record.length = 6 ∧
    (s.alertCounts p).length = 4 ∧ e.bytes.length = 13) ∧
  (∀ (n : Nat) (i : Int) (w : Nat) (b : List Byte) (t : Table Bool 12) (q : Reading),
    bytes16 n = [BitVec.ofNat 8 (n / 256), BitVec.ofNat 8 n] ∧
    bytes32 n = [BitVec.ofNat 8 (n / 16777216), BitVec.ofNat 8 (n / 65536), BitVec.ofNat 8 (n / 256), BitVec.ofNat 8 n] ∧
    (0 ≤ i → i < 32768 → signed16 i = bytes16 i.toNat) ∧
    (-32768 ≤ i → i < 0 → signed16 i = bytes16 (i + 65536).toNat) ∧
    optField w none = 0 :: List.replicate w 0 ∧ optField w (some b) = 1 :: b ∧
    q.bytes = bytes16 q.density ++ [q.mark.code] ∧
    ∃ m, valueSet t = bytes16 m ∧ m < 4096 ∧ ∀ v : Fin 12, m.testBit v.val = t.get v) ∧
  (lineRecord none = List.replicate 43 0 ∧
    ∀ c : LineCtx, lineRecord (some c) =
      [lineStateCode (some c.state)] ++ 1 :: bytes16 c.lab ++ [1, c.kind.code] ++ [1, byte c.aim.val] ++
      [c.epoch, byte c.epochPoints, byte c.missed, byte c.ring.length] ++
      optField 2 (c.ring.getLast?.map fun q => bytes16 q.day) ++ optField 1 (c.ring.getLast?.map fun q => [q.state.code]) ++
      c.waiting.cells.flatMap fun w => optField 1 (w.map fun k => [byte k.code])) ∧
  (∀ q : Point, q.bytes =
    bytes16 q.day ++ [q.state.code, byte q.head.val] ++ bytes32 q.code ++ [byte q.slot.val, q.epoch, flagByte q.settling,
      flagByte q.doubtful, byte q.reruns] ++ q.readings.cells.flatMap Reading.bytes ++ q.values.cells.flatMap signed16 ++
    q.deviations.cells.flatMap signed16 ++ (q.verdicts.cells.flatMap fun v => [v.code]) ++
    optField 60 (q.first.map fun f => f.readings.cells.flatMap Reading.bytes ++ f.values.cells.flatMap signed16) ++
    optField 113 (q.cross.map fun x =>
      bytes32 x.code ++ [byte x.slot.val] ++ x.readings.cells.flatMap Reading.bytes ++ x.values.cells.flatMap signed16 ++
      x.deviations.cells.flatMap signed16 ++ x.differences.cells.flatMap signed16) ++
    match q.state with
    | .final r v a => 1 :: r.cells.flatMap signed16 ++ (1 :: v.cells.flatMap fun x => [x.code]) ++ valueSet a
    | _ => List.replicate 40 0) ∧
  (∀ (q : Point) (r : Table Int 12) (v : Table Verdict 12) (a : Table Bool 12), q.state = .final r v a →
    q.driftBytes = bytes16 q.day ++ bytes32 q.code ++ [byte q.slot.val] ++ r.cells.flatMap signed16 ++
      (v.cells.flatMap fun x => [x.code]) ++ valueSet a) ∧
  (∀ c : LineCtx, c.driftBytes =
    (c.filters.cells.flatMap fun f =>
      [f.run.code, byte f.runCount, f.slope.code, byte f.slopeCount] ++ optField 2 (f.last.map signed16)) ++
    c.warn.cells.flatMap fun w => optField 1 (w.map fun v => [v.code])) ∧
  (∀ q : AimPart, q.bytes =
    (q.aims.cells.flatMap fun a =>
      signed16 a.offset ++ signed16 a.la ++ signed16 a.lw ++ signed16 a.uw ++ signed16 a.ua) ++
    [byte q.run, byte q.slope, byte q.settling]) ∧
  (lotRecord none = List.replicate 218 0 ∧
    ∀ l : Lot, lotRecord (some l) =
      [lotStateCode (some l.state)] ++ 1 :: bytes32 l.code ++ [1, l.kind.code] ++ l.refs.cells.flatMap signed16 ++
      l.active.cells.flatMap signed16 ++ l.pending.cells.flatMap signed16 ++
      [flagByte (decide (l.active ≠ l.pending)), byte (match l.state with | .retiring c => c | _ => 0)] ++
      optField 74 (l.shift.map fun r => bytes16 r.day ++ r.entries.cells.flatMap fun e =>
        [sideCode (e.shift.map Shift.side)] ++ optField 2 (e.shift.map fun x => signed16 x.magnitude) ++
          [byte e.participants, byte e.agreeing]) ++
      optField 36 (l.proposal.map fun q => q.cells.flatMap fun x => optField 2 (x.map signed16)) ++
      l.waiting.cells.flatMap fun w => optField 1 (w.map fun k => [byte k.code])) ∧
  (∀ s : State, s.dayRecord =
    bytes16 s.day.number ++ [s.day.state.code] ++ optField 1 (s.day.state.stage.map fun c => [c]) ++
    bytes16 s.day.timer ++ [flagByte s.day.firstClose] ++ optField 2 (s.day.last.map fun x => bytes16 x.day) ++
    optField 1 (s.day.last.map fun x => [x.cause.code]) ++
    [flagByte s.day.missedEdge, byte s.drain, byte s.queue.length] ++ bytes16 s.day.desk.length ++
    [byte s.day.desk.window, s.day.desk.mode.code, byte s.day.desk.quorum, byte s.day.desk.share,
      byte s.day.desk.tolerance, byte s.day.desk.overdueLimit, byte s.day.desk.crossoverDays] ++
    optField 8 (s.day.summary.map fun x => bytes16 x.close.day ++ [x.close.cause.code, byte x.tally.points,
      byte x.tally.overdue, byte x.tally.shifts, byte x.tally.done, byte x.tally.deferred])) ∧
  (∀ s : State, s.holds.length ≤ 8 → s.holdsRecord =
    (s.holds.flatMap fun h => 1 :: itemBytes h.item ++ [portCode h.owner, byte h.lease]) ++
    List.replicate (5 * (8 - s.holds.length)) 0 ++ [byte s.holds.length, byte s.level]) ∧
  (∀ r : Reader, r.record =
    [flagByte r.enable, r.rate.code, flagByte r.loopback, byte r.calLife,
      if r.enable = false then 0 else if r.loopback = true then 4 else
        match r.phase with | .hunt => 1 | .receiving _ => 2 | .held _ => 3,
      byte r.fifo.length, flagByte r.headReady, flagByte r.delta] ++
    (match r.cal with
      | .uncalibrated => List.replicate 14 0
      | .valid o g left => [1, byte left, 1] ++ bytes16 g ++ o.cells.flatMap fun x => 1 :: bytes16 x
      | .spent o g => [2, 0, 1] ++ bytes16 g ++ o.cells.flatMap fun x => 1 :: bytes16 x) ++
    [(r.fault.code.map FaultCode.code).getD 0] ++ optField 1 (r.fault.origin.map fun o => [o.code]) ++
    optField 2 (r.fault.lab.map bytes16) ++ optField 2 (r.fault.day.map bytes16) ++ [byte r.fault.count, r.test.code]) ∧
  (∀ u : Store, u.record =
    ([match u.phase with | .idle => 0 | .saving _ => 2 | _ => 1] : List Byte) ++
    (match u.outcome with
      | .noOutcome => [0, 0, 0]
      | .loaded => [1, 0, 0]
      | .loadFailed x => [2, 1, x.code]
      | .saved => [3, 0, 0]
      | .saveFailed x => [4, 1, x.code]) ++ [byte u.writes, 0x50 ||| u.straps.zeroExtend 8]) ∧
  (∀ (s : State) (p : Port) (e : AlertEntry),
    s.alertCounts p =
      [byte (s.alerts.filter fun (x : AlertEntry) => x.ports.has p).length, byte s.alerts.length] ++
        bytes16 s.waitingCount ∧
    e.bytes = [byte e.number.val, e.serial] ++
      (match e.key.subject with | .line n => [1, byte n.val] | .lot k => [3, byte k.val]) ++
      [match e.key.value with | some v => byte v.val | none => 0xFF] ++ [byte e.kind.code] ++ bytes16 e.day ++
      optField 2 (e.amount.map signed16) ++
      [byte e.repeats, (if e.ports.mp0 then 1 else 0) + if e.ports.mp1 then 2 else 0]) ∧
  [Mark.unmarked, .bright, .opaqued].map Mark.code = [0, 1, 2] ∧
  [Verdict.inside, .warnHigh, .actionHigh, .warnLow, .actionLow].map Verdict.code = [0, 1, 2, 3, 4] ∧
  [none, some Side.high, some .low].map sideCode = [0, 1, 2] ∧
  [RunDir.flat, .positive, .negative].map RunDir.code = [0, 1, 2] ∧
  [SlopeDir.flat, .up, .down].map SlopeDir.code = [0, 1, 2] ∧
  [none, some LineState.enrolled, some .active, some .overdue, some .suspended].map lineStateCode = [0, 1, 2, 3, 4] ∧
  (∀ r v a, [PointState.provisional, .final r v a, .void].map PointState.code = [0, 1, 2]) ∧
  (∀ c, [none, some LotState.defined, some .current, some (.retiring c), some .retired].map lotStateCode =
    [0, 1, 2, 3, 4]) ∧
  [ProcessKind.film, .paper].map ProcessKind.code = [1, 2] ∧
  [Rate.r9600, .r19200, .r38400, .r57600].map Rate.code = [1, 2, 3, 4] ∧
  [DayMode.alone, .leader, .follower].map DayMode.code = [0, 1, 2] ∧
  [CloseCause.port .mp0, .port .mp1, .edge, .expiry].map CloseCause.code = [0, 1, 2, 3] ∧
  (∀ x, [DayState.dayOpen, .draining, .closing x, .transferWait].map DayState.code = [0, 1, 2, 3]) ∧
  (∀ (k : Fin 16) (n : Fin 96),
    [DayState.dayOpen, .draining, .closing (.consensus k), .closing (.finalisation n), .closing (.overdue n),
      .closing (.countdown k), .closing (.transferAim k), .closing (.transferLot k), .transferWait,
      .closing .summary].map DayState.stage =
      [none, none, some 0, some 1, some 2, some 3, some 4, some 4, some 4, some 5] ∧
    [Item.line n, .aim k, .lot k, .desk].map itemBytes = [[1, byte n.val], [2, byte k.val], [3, byte k.val], [4, 0]]) ∧
  [Port.mp0, .mp1].map portCode = [0, 1] ∧
  [TestResult.noTest, .running, .pass, .crc, .length, .kind, .lineError, .timeout, .aborted].map TestResult.code =
    [0, 1, 2, 3, 4, 5, 6, 7, 8] ∧
  [Origin.frame, .evaluation].map Origin.code = [0, 1] ∧
  [FaultCode.nak .crc, .nak .length, .nak .kind, .nak .lineError, .nak .timeout, .nak .full, .nak .notReady,
    .nak .notEnrolled, .nak .suspended, .nak .lotUnknown, .nak .wrongProcess, .nak .lotRetired, .nak .uncalibrated,
    .nak .gateMismatch, .nak .calWeak, .lineGone, .lotGone].map FaultCode.code =
    [0xC1, 0xC2, 0xC3, 0xC4, 0xC5, 0xC6, 0xC7, 0xC8, 0xC9, 0xCA, 0xCB, 0xCC, 0xCD, 0xCE, 0xCF, 0xD1, 0xD2] ∧
  [StoreCause.noAnswer, .badHeader, .badCrc, .badContent, .writeTimeout].map StoreCause.code = [0, 1, 2, 3, 4] ∧
  [AlertKind.warn, .action, .warnPair, .trend, .recovered, .lotAttributed, .lotDrift, .crossover, .overdue].map
    AlertKind.code = [0, 1, 2, 3, 4, 5, 6, 7, 8]

/-! ### Alerts and attention -/

/-- The four cases of an offer (R142): no port subscribed, with an entry of its key and without, an entry with its key, room
in the list, and a full list; several offers are taken one after the other. The places of the waiting kinds (R143).
A departure and its moving in (R144): with nothing waiting the entry goes and nothing comes; the first waiting kind in
scan order comes in as a new entry at the back when a port is subscribed to it, and is dropped, the moving in going on
without it, when none is. -/
def Obligations.OfferCases : Prop :=
  ∀ (s : State) (o : Offer),
    let ports : PortSet := ⟨s.mp0.subscription.getLsbD o.kind.code, s.mp1.subscription.getLsbD o.kind.code⟩
    (∀ e, ports = ⟨false, false⟩ → s.alerts.find? (fun (x : AlertEntry) => decide (x.key = o.key)) = some e →
      s.offer o = (s.setWaiting o.key none).depart e.number) ∧
    (ports = ⟨false, false⟩ → (∀ e ∈ s.alerts, e.key ≠ o.key) → s.offer o = s.setWaiting o.key none) ∧
    (∀ before e after, ports ≠ ⟨false, false⟩ → s.alerts = before ++ e :: after → e.key = o.key →
      (∀ x ∈ before, x.key ≠ o.key) → (∀ x ∈ before ++ after, x.number ≠ e.number) →
      s.offer o = { s with
        serials := s.serials.set e.number (s.serials.get e.number + 1)
        alerts := before ++ after ++ [⟨e.number, s.serials.get e.number + 1, e.key, o.kind, o.day, o.amount,
          if e.repeats < 255 then e.repeats + 1 else e.repeats, ports⟩] }) ∧
    (∀ k : Fin 32, ports ≠ ⟨false, false⟩ → (∀ e ∈ s.alerts, e.key ≠ o.key) → s.alerts.length < 32 →
      (∀ e ∈ s.alerts, e.number ≠ k) → (∀ j : Fin 32, j < k → ∃ e ∈ s.alerts, e.number = j) →
      s.offer o = { s with
        serials := s.serials.set k (s.serials.get k + 1)
        alerts := s.alerts ++ [⟨k, s.serials.get k + 1, o.key, o.kind, o.day, o.amount, 1, ports⟩] }) ∧
    (ports ≠ ⟨false, false⟩ → (∀ e ∈ s.alerts, e.key ≠ o.key) → 32 ≤ s.alerts.length →
      s.offer o = s.setWaiting o.key (some o.kind)) ∧
    s.offerAll [] = s ∧ (∀ os, s.offerAll (o :: os) = (s.offer o).offerAll os) ∧
    (∀ (n : Fin 96) (v : Option (Fin 12)) (w : Option AlertKind),
      let i : Fin 13 := v.elim 12 Fin.castSucc
      (s.line n = none → s.waitingAt ⟨.line n, v⟩ = none ∧ s.setWaiting ⟨.line n, v⟩ w = s) ∧
      ∀ c, s.line n = some c → s.waitingAt ⟨.line n, v⟩ = c.waiting.get i ∧
        s.setWaiting ⟨.line n, v⟩ w = s.setLine n (some { c with waiting := c.waiting.set i w })) ∧
    (∀ (k : Fin 16) (v : Fin 12) (w : Option AlertKind),
      (s.lot k = none → s.waitingAt ⟨.lot k, some v⟩ = none ∧ s.setWaiting ⟨.lot k, some v⟩ w = s) ∧
      ∀ l, s.lot k = some l → s.waitingAt ⟨.lot k, some v⟩ = l.waiting.get v ∧
        s.setWaiting ⟨.lot k, some v⟩ w = s.setLot k (some { l with waiting := l.waiting.set v w })) ∧
    ∀ number : Fin 32,
      let left := s.alerts.filter fun (e : AlertEntry) => e.number != number
      ((∀ k, s.waitingAt k = none) → s.depart number = { s with alerts := left }) ∧
      ∀ key kind, s.waitingAt key = some kind → (∀ j, s.waitingAt j ≠ none → scanRank key ≤ scanRank j) →
        let takers : PortSet := ⟨s.mp0.subscription.getLsbD kind.code, s.mp1.subscription.getLsbD kind.code⟩
        (takers = ⟨false, false⟩ → s.depart number = (s.setWaiting key none).depart number) ∧
        ∀ k : Fin 32, takers ≠ ⟨false, false⟩ → (∀ e ∈ left, e.number ≠ k) →
          (∀ j : Fin 32, j < k → ∃ e ∈ left, e.number = j) →
          s.depart number = { s.setWaiting key none with
            serials := s.serials.set k (s.serials.get k + 1)
            alerts := left ++ [⟨k, s.serials.get k + 1, key, kind, s.day.number, none, 1, takers⟩] }

/-- ACK-ALERT and SET-SUBSCRIPTION: the refusals, the claims removed, and the entries that leave, oldest first, each
departure with its moving in under the new subscription (R141, R145, R147). That a set bit above the ninth kind is a
BAD-PARAM is log 16. -/
def Obligations.AcknowledgeAndSubscribe : Prop :=
  ∀ (s : State) (p : Port), (s.alerts.map AlertEntry.number).Nodup →
    (∀ (k : Fin 32) (serial : Byte), s.executes p .ackAlert [byte k.val, serial] → s.permits p .ackAlert none →
      ((∀ e ∈ s.alerts, e.number ≠ k) →
        exec (.ackAlert p) s = .next (s.answer p Command.ackAlert.code .notFound [])) ∧
      ∀ before e after, s.alerts = before ++ e :: after → e.number = k →
        (e.serial ≠ serial → exec (.ackAlert p) s = .next (s.answer p Command.ackAlert.code .stale [])) ∧
        (e.serial = serial → e.ports.has p = false →
          exec (.ackAlert p) s = .next (s.answer p Command.ackAlert.code .ok [0])) ∧
        (e.serial = serial → e.ports = ⟨true, true⟩ →
          exec (.ackAlert p) s =
            .next ({ s with alerts := before ++ { e with ports := e.ports.remove p } :: after }.answer p
              Command.ackAlert.code .ok [0])) ∧
        (e.serial = serial → e.ports.has p = true → e.ports.has (otherPort p) = false →
          exec (.ackAlert p) s = .next ((s.depart k).answer p Command.ackAlert.code .ok [1]))) ∧
    ∀ a b : Byte, s.executes p .setSubscription [a, b] → s.permits p .setSubscription none →
      (2 ≤ a.toNat → exec (.setSubscription p) s = .next (s.answer p Command.setSubscription.code .badParam [])) ∧
      (a.toNat < 2 → ∃ t, exec (.setSubscription p) s = .next t ∧
        (t.port p).subscription = BitVec.ofNat 9 (nat16 a b) ∧
        (t.port (otherPort p)) = s.port (otherPort p) ∧
        t.quiet = ((s.setPort p { s.port p with subscription := BitVec.ofNat 9 (nat16 a b) }).answer p
          Command.setSubscription.code .ok []).quiet ∧
        ((∀ e ∈ s.alerts, e.ports.empty = false ∧ ((BitVec.ofNat 9 (nat16 a b)).getLsbD e.kind.code = true ∨
            (s.port p).subscription.getLsbD e.kind.code = false)) → t.alerts = s.alerts ∧ t.serials = s.serials) ∧
        let claims := s.alerts.map fun (e : AlertEntry) =>
          if (s.port p).subscription.getLsbD e.kind.code = true ∧ (BitVec.ofNat 9 (nat16 a b)).getLsbD e.kind.code = false
          then { e with ports := e.ports.remove p } else e
        let leaving := (claims.filter fun (e : AlertEntry) => e.ports.empty).map AlertEntry.number
        t = (leaving.foldl State.depart
          { s.setPort p { s.port p with subscription := BitVec.ofNat 9 (nat16 a b) } with alerts := claims }).answer p
            Command.setSubscription.code .ok [])

/-- GET-ATTENTION returns the first requesting open cause, HIGH before LOW and then in the order of the causes, and clears
its flag; SET-ATTENTION replaces the ten settings; ATTN follows requests and masks (R150 to R153). The causes' codes and
bits and the 0xFF stand in sections 12.3 and 12.4. That a mask or group byte with a bit above the fifth is refused
BAD-PARAM is no rule but the model's reading (log 16, DEDUCED). -/
def Obligations.AttentionCommands : Prop :=
  ∀ (s : State) (p : Port),
    let u := s.port p
    let asks := fun (c : Cause) => s.request p c = true ∧ u.masks.getLsbD c.code = true
    let high := fun (c : Cause) => u.groups.getLsbD c.code = true
    let ahead := fun (x c : Cause) => (high x ∧ ¬ high c) ∨ ((high x ↔ high c) ∧ x.code < c.code)
    (s.attn p = true ↔ ∃ c, asks c) ∧
    (s.executes p .getAttention [] → s.permits p .getAttention none →
      ((∀ c, ¬ asks c) →
        exec (.getAttention p) s = .next (s.answer p Command.getAttention.code .nothing [0xFF, s.requestSet p])) ∧
      ∀ c, asks c → (∀ x, asks x → x = c ∨ ahead c x) →
        let s' := s.setPort p { u with
          closeFlag := u.closeFlag && c != .close, lapseFlag := u.lapseFlag && c != .holdLapse
          readerFlag := u.readerFlag && c != .reader, storeFlag := u.storeFlag && c != .store }
        exec (.getAttention p) s =
          .next (s'.answer p Command.getAttention.code .ok [byte c.code, s'.requestSet p])) ∧
    ∀ m g : Byte, s.executes p .setAttention [m, g] →
      (32 ≤ m.toNat ∨ 32 ≤ g.toNat →
        exec (.setAttention p) s = .next (s.answer p Command.setAttention.code .badParam [])) ∧
      (m.toNat < 32 → g.toNat < 32 → s.permits p .setAttention none →
        exec (.setAttention p) s =
          .next ((s.setPort p { u with masks := BitVec.ofNat 5 m.toNat, groups := BitVec.ofNat 5 g.toNat }).answer p
            Command.setAttention.code .ok []))

/-! ### Ports -/

/-- SELECTION_BEGINS fixes the state byte, and a command selection takes a frame that passes, refuses one that does not
with BAD-FRAME, and is discarded when its state byte was NOT-READY or a reset cut it (R155, R156, R170). That the state
byte goes on standing in every position of a selection that a reset cut is the model's choice (log 21). -/
def Obligations.CommandSelections : Prop :=
  ∀ (s : State) (p : Port),
    let u := s.port p
    (u.selection = none →
      exec (.selectionBegins p) s =
        .next (s.setPort p { u with
          selection := some (Selection.mk
            (if u.executing.isSome then .notReady else if u.response.isSome then .ready else .noResponse) false) })) ∧
    ∀ (x : Selection) (bytes : List Byte), u.selection = some x → Instr.wellFormed (.commandSelection p bytes) = true →
      let out := List.replicate bytes.length x.state.code
      (x.state = .notReady ∨ x.discarded = true →
        exec (.commandSelection p bytes) s = .next (s.setPort p { u with selection := none, shiftedOut := out })) ∧
      (∀ code params, x.state ≠ .notReady → x.discarded = false → params.length ≤ 120 →
        bytes = [code, byte params.length] ++ params ++ checkBytes ([code, byte params.length] ++ params) →
        exec (.commandSelection p bytes) s =
          .next (s.setPort p { u with
            selection := none, shiftedOut := out, executing := some ⟨code, params⟩, response := none })) ∧
      ∀ first more, x.state ≠ .notReady → x.discarded = false → bytes = first :: more →
        (∀ params, params.length ≤ 120 →
          bytes ≠ [first, byte params.length] ++ params ++ checkBytes ([first, byte params.length] ++ params)) →
        exec (.commandSelection p bytes) s =
          .next (s.setPort p { u with
            selection := none, shiftedOut := out, response := some ⟨.badFrame, first, []⟩ })

/-- A collect selection of n bytes: with a response waiting its bytes follow the state byte, and it is collected with its
last check byte; otherwise the state byte stands in every position and nothing changes (R157). What a selection that a
reset cut clocks out is the model's choice (log 21): the state byte goes on in every position, and in one that began
READY, whose response is gone, n - 1 free bytes follow the state byte, of which nothing is said. -/
def Obligations.CollectSelections : Prop :=
  ∀ (s : State) (p : Port) (x : Selection) (n : Nat),
    let u := s.port p
    1 ≤ n → u.selection = some x →
    (x.state ≠ .ready →
      exec (.collectSelection p n) s =
        .next (s.setPort p { u with selection := none, shiftedOut := List.replicate n x.state.code })) ∧
    (x.state = .ready → x.discarded = true → ∃ out : List Byte, out.length = n - 1 ∧
      exec (.collectSelection p n) s =
        .next { s.setPort p { u with selection := none, shiftedOut := 0xE2 :: out } with
          freeCount := s.freeCount + (n - 1) }) ∧
    ∀ r : Response, x.state = .ready → x.discarded = false → u.response = some r →
      let covered := [r.status.code, r.code] ++ bytes16 r.data.length ++ r.data
      let frame := covered ++ checkBytes covered
      (n ≤ frame.length →
        exec (.collectSelection p n) s =
          .next (s.setPort p { u with selection := none, shiftedOut := 0xE2 :: frame.take (n - 1) })) ∧
      (frame.length < n →
        exec (.collectSelection p n) s =
          .next (s.setPort p { u with
            selection := none, response := none
            shiftedOut := 0xE2 :: frame ++ List.replicate (n - 1 - frame.length) 0xE0 }))

/-- The common refusals in the order of R159: an unknown code, a parameter length, an index outside its range, LOADING,
SAVING and the protection level; and a refused command changes nothing but its port's buffer, with no data. Parameters
that pass step 3 (`Command.paramsPass`) are answered with the one status of the first later step that fails, and those
that do not pass it with BAD-PARAM or RANGE. That a mode or a set outside its codes fails step 3 is log 16. -/
def Obligations.RefusalsOfCommands : Prop :=
  ∀ (s : State) (p : Port) (ready : BitVec 4) (straps : BitVec 3),
    (∀ t, (s.port p).executing = some t → knownCode t.code = false →
      exec (.unknownCommand p) s = .next (s.answer p t.code .unknown [])) ∧
    (∀ c params, s.executes p c params → params.length ≠ c.paramLen →
      exec (c.row p ready straps) s = .next (s.answer p c.code .badParam [])) ∧
    (∀ c (a : Byte), s.executes p c [a] →
      ((c ∈ [Command.suspendLine, .resumeLine, .withdrawLine, .readLine, .readDrift] ∧ 96 ≤ a.toNat) ∨
        (c ∈ [Command.readAims, .discardPending, .makeCurrent, .retireLot, .clearLot, .adoptProposal, .readLot] ∧
          16 ≤ a.toNat) ∨
        (c ∈ [Command.readReader, .clearReaderFaults, .testReader] ∧ 4 ≤ a.toNat)) →
      exec (c.row p ready straps) s = .next (s.answer p c.code .badParam [])) ∧
    (∀ c params, s.executes p c params → c ≠ .readStore → s.store.loading = true →
      ∃ st, st.refusal = true ∧ (c.paramLen = 0 → params = [] → st = .busy) ∧
        exec (c.row p ready straps) s = .next (s.answer p c.code st [])) ∧
    (∀ c params, s.executes p c params → c.changesImage = true → s.store.isSaving = true →
      ∃ st, (st = .storeBusy ∨ st = .badParam ∨ st = .range) ∧
        exec (c.row p ready straps) s = .next (s.answer p c.code st [])) ∧
    (∀ c params, s.executes p c params → c.locked s.level = true → s.store.phase = .idle →
      ∃ st, (st = .locked ∨ st = .badParam ∨ st = .range) ∧
        exec (c.row p ready straps) s = .next (s.answer p c.code st [])) ∧
    (∀ c params, s.executes p c params → params.length = c.paramLen → ¬ c.paramsPass params →
      ∃ st, (st = .badParam ∨ st = .range) ∧ exec (c.row p ready straps) s = .next (s.answer p c.code st [])) ∧
    (∀ c params, s.executes p c params → c.paramsPass params →
      (s.store.loading = true → c ≠ .readStore →
        exec (c.row p ready straps) s = .next (s.answer p c.code .busy [])) ∧
      (s.store.isSaving = true → c.changesImage = true →
        exec (c.row p ready straps) s = .next (s.answer p c.code .storeBusy [])) ∧
      (s.store.phase = .idle → c.locked s.level = true →
        exec (c.row p ready straps) s = .next (s.answer p c.code .locked []))) ∧
    ∀ c params t r, s.executes p c params → c ≠ .restart → exec (c.row p ready straps) s = .next t →
      (t.port p).response = some r → r.status.refusal = true →
      r.code = c.code ∧ r.data = [] ∧ t = s.answer p c.code r.status []

/-- A command that names an item and needs a hold, its parameters passing step 3 of R159, is refused NOT-HELD when nobody
holds the item and HELD when the other port does (R165). -/
def Obligations.HoldsNeeded : Prop :=
  ∀ (s : State) (p : Port) (ready : BitVec 4) (straps : BitVec 3) (c : Command) (params : List Byte) (i : Item),
    s.executes p c params → s.store.phase = .idle → s.level = 0 →
    ((∃ n : Fin 96, i = .line n ∧ params = [byte n.val] ∧ (c = .suspendLine ∨ c = .resumeLine ∨ c = .withdrawLine)) ∨
     (∃ k : Fin 16, i = .aim k ∧ params = [byte k.val] ∧ c = .discardPending) ∨
     (∃ k : Fin 16, i = .lot k ∧ params = [byte k.val] ∧
       (c = .makeCurrent ∨ c = .retireLot ∨ c = .clearLot ∨ c = .adoptProposal)) ∨
     (∃ (n : Fin 96) (k : Fin 16), i = .line n ∧ params = [byte n.val, byte k.val] ∧ c = .setLineAim) ∨
     (∃ (n : Fin 96) (a b : Byte), i = .line n ∧ params = [byte n.val, a, b] ∧ c = .voidPoint) ∨
     (∃ (k : Fin 16) (m : Bool), i = .aim k ∧ params = [byte k.val, flagByte m] ∧ c = .setPreload) ∨
     (∃ (k : Fin 16) (v : Fin 12) (o1 o2 a1 a2 b1 b2 c1 c2 d1 d2 : Byte), i = .aim k ∧
       params = [byte k.val, byte v.val, o1, o2, a1, a2, b1, b2, c1, c2, d1, d2] ∧ c = .writeAim) ∨
     (∃ (k : Fin 16) (kind : ProcessKind) (r l x : Byte), i = .aim k ∧ params = [byte k.val, kind.code, r, l, x] ∧
       c = .writeAimRules) ∨
     (∃ (k : Fin 16) (code : Nat) (kind : ProcessKind) (refs : Table Int 12), i = .lot k ∧ 1 ≤ code ∧
       code ≤ 4294967295 ∧ (∀ v, -4000 ≤ refs.get v ∧ refs.get v ≤ 4000) ∧
       params = [byte k.val] ++ bytes32 code ++ [kind.code] ++ refs.cells.flatMap signed16 ∧ c = .defineLot) ∨
     (∃ (k : Fin 16) (v : Fin 12) (a b : Byte), i = .lot k ∧ -500 ≤ int16 a b ∧ int16 a b ≤ 500 ∧
       params = [byte k.val, byte v.val, a, b] ∧ c = .writeCorrection) ∨
     (∃ d : Desk, i = .desk ∧ d.inRange = true ∧ params = d.bytes ∧ c = .writeDesk)) →
    (s.holder i = none → exec (c.row p ready straps) s = .next (s.answer p c.code .notHeld [])) ∧
    (s.holder i = some (otherPort p) → exec (c.row p ready straps) s = .next (s.answer p c.code .held []))

/-! ### The store -/

/-- SAVE-IMAGE and the page writes: a save copies the body and writes 122 pages, the first with the marker field 0 and the
last with the marker, each with the format number 1, the body length 3856, the body's check code and eight fill bytes;
each written page counts, and every byte outside it reads as before; the end of a save is one event (R177, R178, R184,
section 12.5). -/
def Obligations.SavingTheImage : Prop :=
  ∀ (s : State) (p : Port),
    let ended := fun (t : State) (o : LastOutcome) =>
      { t with
        store := { t.store with phase := .idle, outcome := o }
        mp0 := { t.mp0 with storeFlag := true }, mp1 := { t.mp1 with storeFlag := true }
        day := { t.day with state := if t.day.state = .transferWait then .closing (.transferAim 0) else t.day.state } }
    (s.executes p .saveImage [] → s.permits p .saveImage none →
      (s.day.state = .dayOpen → s.store.phase = .idle →
        exec (.saveImage p) s =
          .next ({ s with
            store := { s.store with phase := .saving s.body, writes := 0 }
            freeCount := s.freeCount + 768 }.answer p Command.saveImage.code .ok [])) ∧
      (s.day.state ≠ .dayOpen ∨ s.store.phase ≠ .idle →
        exec (.saveImage p) s = .next (s.answer p Command.saveImage.code .busy []))) ∧
    s.body.length = 3856 ∧
    ∀ body, s.store.phase = .saving body →
      (s.store.writes < 121 →
        exec .pageWriteComplete s =
          .next { s with
            memory := writePage s.memory body s.store.writes
            store := { s.store with writes := s.store.writes + 1 } }) ∧
      (s.store.writes = 121 →
        exec .pageWriteComplete s =
          .next (ended { s with
            memory := writePage s.memory body 121, store := { s.store with writes := 122 } } .saved)) ∧
      exec .writeTimeout s = .next (ended s (.saveFailed .writeTimeout)) ∧
      exec .noAnswer s = .next (ended s (.saveFailed .noAnswer)) ∧
      (pageWrite body 0).1 = 0 ∧ (pageWrite body 0).2.take 2 = [0, 0] ∧ (pageWrite body 121).1 = 0 ∧
      (pageWrite body 121).2.take 2 = [0x5C, 0x3A] ∧
      (pageWrite body 0).2 =
        [0, 0, 0, 1, 0x0F, 0x10] ++ checkBytes body ++ List.replicate 8 0 ++ body.take 16 ∧
      (pageWrite body 121).2 =
        [0x5C, 0x3A, 0, 1, 0x0F, 0x10] ++ checkBytes body ++ List.replicate 8 0 ++ body.take 16 ∧
      (∀ k, 1 ≤ k → k ≤ 120 → pageWrite body k = (32 * k, (body.drop (32 * k - 16)).take 32)) ∧
      (MemoryOk s → ∀ k a : Nat,
        Memory.read (writePage s.memory body k) a =
          if (pageWrite body k).1 ≤ a ∧ a < (pageWrite body k).1 + (pageWrite body k).2.length then
            (pageWrite body k).2.getD (a - (pageWrite body k).1) 0
          else Memory.read s.memory a)

/-- Loading: the header decides BAD-HEADER or the body read; the end of the load writes the tables from a content that
passes and none otherwise, and is one event (R175, R176). -/
def Obligations.LoadingTheImage : Prop :=
  ∀ s : State,
    let ended := fun (t : State) (o : LastOutcome) =>
      { t with
        store := { t.store with phase := .idle, outcome := o }
        mp0 := { t.mp0 with storeFlag := true }, mp1 := { t.mp1 with storeFlag := true } }
    let bytes := s.memory.readBytes 0 16
    let body := s.memory.readBytes 16 3856
    (s.store.phase = .loadingHeader →
      (bytes.take 6 ≠ [0x5C, 0x3A, 0x00, 0x01, 0x0F, 0x10] →
        exec .headerReadComplete s = .next (ended s (.loadFailed .badHeader))) ∧
      (∀ a b, bytes.take 8 = [0x5C, 0x3A, 0x00, 0x01, 0x0F, 0x10, a, b] →
        exec .headerReadComplete s =
          .next (s.setStore { s.store with phase := .loadingBody (BitVec.ofNat 16 (nat16 a b)) })) ∧
      exec .noAnswer s = .next (ended s (.loadFailed .noAnswer))) ∧
    ∀ c, s.store.phase = .loadingBody c →
      (checkCode body ≠ c → exec .loadEnd s = .next (ended s (.loadFailed .badCrc))) ∧
      (checkCode body = c → contentOf body = none →
        exec .loadEnd s = .next (ended s (.loadFailed .badContent))) ∧
      (∀ x, checkCode body = c → contentOf body = some x →
        exec .loadEnd s =
          .next (ended { s with
            day := { s.day with desk := x.desk }
            aims := Table.ofFn fun k => (x.aims.get k).getD (s.aim k)
            lots := x.lots, lines := x.lines, labMap := mapOf x.lines } .loaded)) ∧
      exec .noAnswer s = .next (ended s (.loadFailed .noAnswer))

/-- What a save writes, a load takes back: the tables that a body holds are the tables it was made from, with each line
ENROLLED or SUSPENDED and fresh, and pending parts equal to active ones (R176, R177), in a state that keeps the laws of
its tables. -/
def Obligations.SavedImageLoadsBack : Prop :=
  ∀ s : State, LabMapOk s → AimsOk s → BindingOk s → LotsOk s →
    (∀ n c, s.line n = some c → 1 ≤ c.lab ∧ c.lab ≤ 65534) →
    (∀ k l, s.lot k = some l → 1 ≤ l.code ∧ l.code ≤ 4294967295 ∧
      ∀ v, -4000 ≤ l.refs.get v ∧ l.refs.get v ≤ 4000 ∧ -500 ≤ l.active.get v ∧ l.active.get v ≤ 500) →
    ∃ x, contentOf s.body = some x ∧ x.desk = s.day.desk ∧
      (∀ k, x.aims.get k = some { s.aim k with pending := (s.aim k).active }) ∧
      (∀ k, x.lots.get k = (s.lot k).map fun l =>
        { l with pending := l.active, shift := none, proposal := none, waiting := Table.fill 12 none }) ∧
      ∀ n, x.lines.get n = (s.line n).map fun c =>
        LineCtx.fresh (if c.state = .suspended then .suspended else .enrolled) c.lab c.kind c.aim

/-! ### System commands -/

/-- SET-LOCK raises the level and discards pending aim edits; RESET-PORT frees the port's holds, resets its settings and
gives it a claim on every entry, the other port untouched (R96, R168, R169). No event but power-on reset lowers the
level. -/
def Obligations.SetLockAndResetPort : Prop :=
  ∀ (s : State) (p : Port),
    (∀ a : Byte, s.executes p .setLock [a] →
      (4 ≤ a.toNat → exec (.setLock p) s = .next (s.answer p Command.setLock.code .range [])) ∧
      (a.toNat ≤ 3 → s.permits p .setLock none →
        (a.toNat ≤ s.level → exec (.setLock p) s = .next (s.answer p Command.setLock.code .locked [])) ∧
        (s.level < a.toNat →
          exec (.setLock p) s =
            .next ({ s with level := a.toNat, aims := s.aims.map fun (x : AimSet) => { x with pending := x.active } }.answer p
              Command.setLock.code .ok [])))) ∧
    (s.executes p .resetPort [] → s.permits p .resetPort none →
      exec (.resetPort p) s =
        .next ({ s with
            holds := s.holds.filter fun (h : Hold) => h.owner != p
            alerts := s.alerts.map fun (e : AlertEntry) => { e with ports := e.ports.add p } }.setPort p
          { executing := none, response := some ⟨.ok, Command.resetPort.code, []⟩, selection := (s.port p).selection
            shiftedOut := (s.port p).shiftedOut, subscription := 0x1FF, masks := 0x1F, groups := 0x03
            closeFlag := false, lapseFlag := false, readerFlag := false, storeFlag := false })) ∧
    ∀ (c : Instr) (t : State), exec c s = .next t → (∀ ready straps, c ≠ .powerOnReset ready straps) → s.level ≤ t.level

/-- The check code: the remainder's register over the bits most significant first, from 0xFFFF, and its value over the
characters "123456789" (R180). -/
def Obligations.CheckCode : Prop :=
  checkCode [0x31, 0x32, 0x33, 0x34, 0x35, 0x36, 0x37, 0x38, 0x39] = 0x29B1 ∧ checkCode [] = 0xFFFF ∧
  (∀ bs b, checkCode (bs ++ [b]) = crcByte (checkCode bs) b) ∧
  (∀ c b, crcByte c b = crcBit (crcBit (crcBit (crcBit (crcBit (crcBit (crcBit (crcBit c
    (b.getLsbD 7)) (b.getLsbD 6)) (b.getLsbD 5)) (b.getLsbD 4)) (b.getLsbD 3)) (b.getLsbD 2)) (b.getLsbD 1))
    (b.getLsbD 0)) ∧
  ∀ (c : Word16) (bit : Bool), crcBit c bit = if c.getLsbD 15 != bit then (c <<< 1) ^^^ 0x1021 else c <<< 1

/-! ### Laws that every step keeps -/

/-- Every law holds at reset. -/
def Obligations.LawsHoldAtReset : Prop :=
  LoadingOk State.reset ∧ MemoryOk State.reset ∧ HoldsOk State.reset ∧ LabMapOk State.reset ∧ AimsOk State.reset ∧ BindingOk State.reset ∧
  LotsOk State.reset ∧ QueueOk State.reset ∧ ReadersOk State.reset ∧ AlertsOk State.reset ∧ PortsOk State.reset ∧
  DayOk State.reset

/-- The serial memory keeps its canonical form at every step (log 18). -/
def Obligations.StepKeepsMemoryCanonical : Prop := ∀ s t : State, step s = .next t → MemoryOk s → MemoryOk t

/-- The hold table keeps its law at every step (R161). -/
def Obligations.StepKeepsHoldTable : Prop := ∀ s t : State, step s = .next t → HoldsOk s → HoldsOk t

/-- While the store is LOADING the tables, the queue, the day, the alert list and the hold table stay at their values
after reset (R160, R174). -/
def Obligations.StepKeepsLoadingFresh : Prop := ∀ s t : State, step s = .next t → LoadingOk s → LoadingOk t

/-- The lab map stays one-to-one with the lines that are not UNUSED, and each line's aim set has its kind (R62, R63), in a
state whose load, if one is going on, found the tables fresh. -/
def Obligations.StepKeepsLabMap : Prop :=
  ∀ s t : State, step s = .next t → LoadingOk s → LabMapOk s ∧ BindingOk s → LabMapOk t ∧ BindingOk t

/-- Both parts of every aim set stay valid, and equal with preload OFF (R88). -/
def Obligations.StepKeepsAimSets : Prop := ∀ s t : State, step s = .next t → AimsOk s → AimsOk t

/-- No two slots hold one code, at most one slot of a kind is CURRENT, and a RETIRING countdown lies in 1 to 7 (R101,
R105). -/
def Obligations.StepKeepsLots : Prop := ∀ s t : State, step s = .next t → LotsOk s → LotsOk t

/-- The queue holds at most 24 records, and frames are HELD only while it is full, in one order (R29, R30, R42). -/
def Obligations.StepKeepsIntakeQueue : Prop := ∀ s t : State, step s = .next t → QueueOk s → QueueOk t

/-- The FIFO's depth, the calibration's count and the transmitter's room of two replies hold at every step (R2, R19,
R31). -/
def Obligations.StepKeepsReaderLines : Prop :=
  ∀ s t : State, step s = .next t → (∀ rl, (s.reader rl).ok) → ∀ rl, (t.reader rl).ok

/-- The alert list holds at most 32 entries, no two with one key, each with a pending port, none naming an UNUSED line or
an EMPTY slot, and kinds wait only behind a full list (R139, R143), in a state whose load, if one is going on, found
the tables fresh. -/
def Obligations.StepKeepsAlertList : Prop :=
  ∀ s t : State, step s = .next t → LoadingOk s → AlertsOk s → AlertsOk t

/-- A port has at most one command in execution and one response, never both (R158). -/
def Obligations.StepKeepsPorts : Prop := ∀ s t : State, step s = .next t → PortsOk s → PortsOk t

/-- The rings stay in strictly increasing day order with at most 20 points, and the records and the PROVISIONAL points
carry the days the day state allows (R46, R47, R71, R73). -/
def Obligations.StepKeepsDays : Prop := ∀ s t : State, step s = .next t → DayOk s → DayOk t
end

