-- ==== Sys2Proof/Laws/Table.lean ====
section
/-! SUPPORT. Reading a table after each way of making one. -/
namespace Sys2Proof

theorem Table.ext {α : Type} {n : Nat} {t u : Table α n} (h : ∀ i, t.get i = u.get i) : t = u := by
  cases t with
  | mk cells size =>
    cases u with
    | mk cells' size' =>
      have : cells = cells' := by
        apply List.ext_getElem (by omega)
        intro i h1 h2
        exact h ⟨i, by omega⟩
      subst this; rfl

@[simp] theorem Table.get_set_self {α : Type} {n : Nat} (t : Table α n) (i : Fin n) (a : α) :
    (t.set i a).get i = a := by simp [Table.get, Table.set]

theorem Table.get_set_other {α : Type} {n : Nat} (t : Table α n) {i j : Fin n} (a : α) (h : i ≠ j) :
    (t.set i a).get j = t.get j := by
  have : i.val ≠ j.val := fun e => h (Fin.ext e)
  simp [Table.get, Table.set, List.getElem_set_ne this]

theorem Table.get_set {α : Type} {n : Nat} (t : Table α n) (i j : Fin n) (a : α) :
    (t.set i a).get j = if i = j then a else t.get j := by
  by_cases h : i = j
  · subst h; simp
  · simp [h, Table.get_set_other t a h]

@[simp] theorem Table.get_ofFn {α : Type} {n : Nat} (f : Fin n → α) (i : Fin n) : (Table.ofFn f).get i = f i := by
  simp [Table.get, Table.ofFn]

@[simp] theorem Table.get_fill {α : Type} {n : Nat} (a : α) (i : Fin n) : (Table.fill n a).get i = a := by
  simp [Table.get, Table.fill]

@[simp] theorem Table.get_map {α β : Type} {n : Nat} (f : α → β) (t : Table α n) (i : Fin n) :
    (t.map f).get i = f (t.get i) := by simp [Table.get, Table.map]

@[simp] theorem Table.set_get {α : Type} {n : Nat} (t : Table α n) (i : Fin n) : t.set i (t.get i) = t := by
  apply Table.ext; intro j; rw [Table.get_set]; split
  · rename_i h; rw [h]
  · rfl

@[simp] theorem Table.set_set {α : Type} {n : Nat} (t : Table α n) (i : Fin n) (a b : α) :
    (t.set i a).set i b = t.set i b := by
  apply Table.ext; intro j; simp only [Table.get_set]; split <;> rfl

/-- Replacing an item by one with the same image leaves the image of the table. -/
theorem Table.map_set_same {α β : Type} {n : Nat} (f : α → β) (t : Table α n) (i : Fin n) (a : α)
    (h : f a = f (t.get i)) : (t.set i a).map f = t.map f := by
  apply Table.ext; intro j; rw [Table.get_map, Table.get_map, Table.get_set]; split
  · rename_i e; rw [h, e]
  · rfl

theorem Table.mem_cells {α : Type} {n : Nat} (t : Table α n) (a : α) : a ∈ t.cells ↔ ∃ i, t.get i = a := by
  constructor
  · intro h
    obtain ⟨i, hi, e⟩ := List.getElem_of_mem h
    exact ⟨⟨i, by rw [← t.size]; exact hi⟩, e⟩
  · rintro ⟨i, e⟩
    rw [← e]; exact List.getElem_mem _

end Sys2Proof
end

