-- ==== Sys2Proof/Laws/State.lean ====
section
/-! SUPPORT. Each named update of the state, field by field, and the reads of what it wrote. -/
namespace Sys2Proof.Machine

variable (s : State)

@[simp] theorem State.setReader_heldOrder (rl : Fin 4) (r : Reader) : (s.setReader rl r).heldOrder = s.heldOrder := rfl
@[simp] theorem State.setReader_queue (rl : Fin 4) (r : Reader) : (s.setReader rl r).queue = s.queue := rfl
@[simp] theorem State.setReader_drain (rl : Fin 4) (r : Reader) : (s.setReader rl r).drain = s.drain := rfl
@[simp] theorem State.setReader_labMap (rl : Fin 4) (r : Reader) : (s.setReader rl r).labMap = s.labMap := rfl
@[simp] theorem State.setReader_lines (rl : Fin 4) (r : Reader) : (s.setReader rl r).lines = s.lines := rfl
@[simp] theorem State.setReader_aims (rl : Fin 4) (r : Reader) : (s.setReader rl r).aims = s.aims := rfl
@[simp] theorem State.setReader_lots (rl : Fin 4) (r : Reader) : (s.setReader rl r).lots = s.lots := rfl
@[simp] theorem State.setReader_day (rl : Fin 4) (r : Reader) : (s.setReader rl r).day = s.day := rfl
@[simp] theorem State.setReader_alerts (rl : Fin 4) (r : Reader) : (s.setReader rl r).alerts = s.alerts := rfl
@[simp] theorem State.setReader_serials (rl : Fin 4) (r : Reader) : (s.setReader rl r).serials = s.serials := rfl
@[simp] theorem State.setReader_mp0 (rl : Fin 4) (r : Reader) : (s.setReader rl r).mp0 = s.mp0 := rfl
@[simp] theorem State.setReader_mp1 (rl : Fin 4) (r : Reader) : (s.setReader rl r).mp1 = s.mp1 := rfl
@[simp] theorem State.setReader_holds (rl : Fin 4) (r : Reader) : (s.setReader rl r).holds = s.holds := rfl
@[simp] theorem State.setReader_level (rl : Fin 4) (r : Reader) : (s.setReader rl r).level = s.level := rfl
@[simp] theorem State.setReader_store (rl : Fin 4) (r : Reader) : (s.setReader rl r).store = s.store := rfl
@[simp] theorem State.setReader_memory (rl : Fin 4) (r : Reader) : (s.setReader rl r).memory = s.memory := rfl
@[simp] theorem State.setReader_freeCount (rl : Fin 4) (r : Reader) : (s.setReader rl r).freeCount = s.freeCount := rfl
@[simp] theorem State.setReader_pending (rl : Fin 4) (r : Reader) : (s.setReader rl r).pending = s.pending := rfl

@[simp] theorem State.setLine_readers (n : Fin 96) (c : Option LineCtx) : (s.setLine n c).readers = s.readers := rfl
@[simp] theorem State.setLine_heldOrder (n : Fin 96) (c : Option LineCtx) : (s.setLine n c).heldOrder = s.heldOrder := rfl
@[simp] theorem State.setLine_queue (n : Fin 96) (c : Option LineCtx) : (s.setLine n c).queue = s.queue := rfl
@[simp] theorem State.setLine_drain (n : Fin 96) (c : Option LineCtx) : (s.setLine n c).drain = s.drain := rfl
@[simp] theorem State.setLine_labMap (n : Fin 96) (c : Option LineCtx) : (s.setLine n c).labMap = s.labMap := rfl
@[simp] theorem State.setLine_aims (n : Fin 96) (c : Option LineCtx) : (s.setLine n c).aims = s.aims := rfl
@[simp] theorem State.setLine_lots (n : Fin 96) (c : Option LineCtx) : (s.setLine n c).lots = s.lots := rfl
@[simp] theorem State.setLine_day (n : Fin 96) (c : Option LineCtx) : (s.setLine n c).day = s.day := rfl
@[simp] theorem State.setLine_alerts (n : Fin 96) (c : Option LineCtx) : (s.setLine n c).alerts = s.alerts := rfl
@[simp] theorem State.setLine_serials (n : Fin 96) (c : Option LineCtx) : (s.setLine n c).serials = s.serials := rfl
@[simp] theorem State.setLine_mp0 (n : Fin 96) (c : Option LineCtx) : (s.setLine n c).mp0 = s.mp0 := rfl
@[simp] theorem State.setLine_mp1 (n : Fin 96) (c : Option LineCtx) : (s.setLine n c).mp1 = s.mp1 := rfl
@[simp] theorem State.setLine_holds (n : Fin 96) (c : Option LineCtx) : (s.setLine n c).holds = s.holds := rfl
@[simp] theorem State.setLine_level (n : Fin 96) (c : Option LineCtx) : (s.setLine n c).level = s.level := rfl
@[simp] theorem State.setLine_store (n : Fin 96) (c : Option LineCtx) : (s.setLine n c).store = s.store := rfl
@[simp] theorem State.setLine_memory (n : Fin 96) (c : Option LineCtx) : (s.setLine n c).memory = s.memory := rfl
@[simp] theorem State.setLine_freeCount (n : Fin 96) (c : Option LineCtx) : (s.setLine n c).freeCount = s.freeCount := rfl
@[simp] theorem State.setLine_pending (n : Fin 96) (c : Option LineCtx) : (s.setLine n c).pending = s.pending := rfl

@[simp] theorem State.setAim_readers (k : Fin 16) (a : AimSet) : (s.setAim k a).readers = s.readers := rfl
@[simp] theorem State.setAim_heldOrder (k : Fin 16) (a : AimSet) : (s.setAim k a).heldOrder = s.heldOrder := rfl
@[simp] theorem State.setAim_queue (k : Fin 16) (a : AimSet) : (s.setAim k a).queue = s.queue := rfl
@[simp] theorem State.setAim_drain (k : Fin 16) (a : AimSet) : (s.setAim k a).drain = s.drain := rfl
@[simp] theorem State.setAim_labMap (k : Fin 16) (a : AimSet) : (s.setAim k a).labMap = s.labMap := rfl
@[simp] theorem State.setAim_lines (k : Fin 16) (a : AimSet) : (s.setAim k a).lines = s.lines := rfl
@[simp] theorem State.setAim_lots (k : Fin 16) (a : AimSet) : (s.setAim k a).lots = s.lots := rfl
@[simp] theorem State.setAim_day (k : Fin 16) (a : AimSet) : (s.setAim k a).day = s.day := rfl
@[simp] theorem State.setAim_alerts (k : Fin 16) (a : AimSet) : (s.setAim k a).alerts = s.alerts := rfl
@[simp] theorem State.setAim_serials (k : Fin 16) (a : AimSet) : (s.setAim k a).serials = s.serials := rfl
@[simp] theorem State.setAim_mp0 (k : Fin 16) (a : AimSet) : (s.setAim k a).mp0 = s.mp0 := rfl
@[simp] theorem State.setAim_mp1 (k : Fin 16) (a : AimSet) : (s.setAim k a).mp1 = s.mp1 := rfl
@[simp] theorem State.setAim_holds (k : Fin 16) (a : AimSet) : (s.setAim k a).holds = s.holds := rfl
@[simp] theorem State.setAim_level (k : Fin 16) (a : AimSet) : (s.setAim k a).level = s.level := rfl
@[simp] theorem State.setAim_store (k : Fin 16) (a : AimSet) : (s.setAim k a).store = s.store := rfl
@[simp] theorem State.setAim_memory (k : Fin 16) (a : AimSet) : (s.setAim k a).memory = s.memory := rfl
@[simp] theorem State.setAim_freeCount (k : Fin 16) (a : AimSet) : (s.setAim k a).freeCount = s.freeCount := rfl
@[simp] theorem State.setAim_pending (k : Fin 16) (a : AimSet) : (s.setAim k a).pending = s.pending := rfl

@[simp] theorem State.setLot_readers (k : Fin 16) (l : Option Lot) : (s.setLot k l).readers = s.readers := rfl
@[simp] theorem State.setLot_heldOrder (k : Fin 16) (l : Option Lot) : (s.setLot k l).heldOrder = s.heldOrder := rfl
@[simp] theorem State.setLot_queue (k : Fin 16) (l : Option Lot) : (s.setLot k l).queue = s.queue := rfl
@[simp] theorem State.setLot_drain (k : Fin 16) (l : Option Lot) : (s.setLot k l).drain = s.drain := rfl
@[simp] theorem State.setLot_labMap (k : Fin 16) (l : Option Lot) : (s.setLot k l).labMap = s.labMap := rfl
@[simp] theorem State.setLot_lines (k : Fin 16) (l : Option Lot) : (s.setLot k l).lines = s.lines := rfl
@[simp] theorem State.setLot_aims (k : Fin 16) (l : Option Lot) : (s.setLot k l).aims = s.aims := rfl
@[simp] theorem State.setLot_day (k : Fin 16) (l : Option Lot) : (s.setLot k l).day = s.day := rfl
@[simp] theorem State.setLot_alerts (k : Fin 16) (l : Option Lot) : (s.setLot k l).alerts = s.alerts := rfl
@[simp] theorem State.setLot_serials (k : Fin 16) (l : Option Lot) : (s.setLot k l).serials = s.serials := rfl
@[simp] theorem State.setLot_mp0 (k : Fin 16) (l : Option Lot) : (s.setLot k l).mp0 = s.mp0 := rfl
@[simp] theorem State.setLot_mp1 (k : Fin 16) (l : Option Lot) : (s.setLot k l).mp1 = s.mp1 := rfl
@[simp] theorem State.setLot_holds (k : Fin 16) (l : Option Lot) : (s.setLot k l).holds = s.holds := rfl
@[simp] theorem State.setLot_level (k : Fin 16) (l : Option Lot) : (s.setLot k l).level = s.level := rfl
@[simp] theorem State.setLot_store (k : Fin 16) (l : Option Lot) : (s.setLot k l).store = s.store := rfl
@[simp] theorem State.setLot_memory (k : Fin 16) (l : Option Lot) : (s.setLot k l).memory = s.memory := rfl
@[simp] theorem State.setLot_freeCount (k : Fin 16) (l : Option Lot) : (s.setLot k l).freeCount = s.freeCount := rfl
@[simp] theorem State.setLot_pending (k : Fin 16) (l : Option Lot) : (s.setLot k l).pending = s.pending := rfl

@[simp] theorem State.setDay_readers (d : DayUnit) : (s.setDay d).readers = s.readers := rfl
@[simp] theorem State.setDay_heldOrder (d : DayUnit) : (s.setDay d).heldOrder = s.heldOrder := rfl
@[simp] theorem State.setDay_queue (d : DayUnit) : (s.setDay d).queue = s.queue := rfl
@[simp] theorem State.setDay_drain (d : DayUnit) : (s.setDay d).drain = s.drain := rfl
@[simp] theorem State.setDay_labMap (d : DayUnit) : (s.setDay d).labMap = s.labMap := rfl
@[simp] theorem State.setDay_lines (d : DayUnit) : (s.setDay d).lines = s.lines := rfl
@[simp] theorem State.setDay_aims (d : DayUnit) : (s.setDay d).aims = s.aims := rfl
@[simp] theorem State.setDay_lots (d : DayUnit) : (s.setDay d).lots = s.lots := rfl
@[simp] theorem State.setDay_alerts (d : DayUnit) : (s.setDay d).alerts = s.alerts := rfl
@[simp] theorem State.setDay_serials (d : DayUnit) : (s.setDay d).serials = s.serials := rfl
@[simp] theorem State.setDay_mp0 (d : DayUnit) : (s.setDay d).mp0 = s.mp0 := rfl
@[simp] theorem State.setDay_mp1 (d : DayUnit) : (s.setDay d).mp1 = s.mp1 := rfl
@[simp] theorem State.setDay_holds (d : DayUnit) : (s.setDay d).holds = s.holds := rfl
@[simp] theorem State.setDay_level (d : DayUnit) : (s.setDay d).level = s.level := rfl
@[simp] theorem State.setDay_store (d : DayUnit) : (s.setDay d).store = s.store := rfl
@[simp] theorem State.setDay_memory (d : DayUnit) : (s.setDay d).memory = s.memory := rfl
@[simp] theorem State.setDay_freeCount (d : DayUnit) : (s.setDay d).freeCount = s.freeCount := rfl
@[simp] theorem State.setDay_pending (d : DayUnit) : (s.setDay d).pending = s.pending := rfl

@[simp] theorem State.setStore_readers (t : Store) : (s.setStore t).readers = s.readers := rfl
@[simp] theorem State.setStore_heldOrder (t : Store) : (s.setStore t).heldOrder = s.heldOrder := rfl
@[simp] theorem State.setStore_queue (t : Store) : (s.setStore t).queue = s.queue := rfl
@[simp] theorem State.setStore_drain (t : Store) : (s.setStore t).drain = s.drain := rfl
@[simp] theorem State.setStore_labMap (t : Store) : (s.setStore t).labMap = s.labMap := rfl
@[simp] theorem State.setStore_lines (t : Store) : (s.setStore t).lines = s.lines := rfl
@[simp] theorem State.setStore_aims (t : Store) : (s.setStore t).aims = s.aims := rfl
@[simp] theorem State.setStore_lots (t : Store) : (s.setStore t).lots = s.lots := rfl
@[simp] theorem State.setStore_day (t : Store) : (s.setStore t).day = s.day := rfl
@[simp] theorem State.setStore_alerts (t : Store) : (s.setStore t).alerts = s.alerts := rfl
@[simp] theorem State.setStore_serials (t : Store) : (s.setStore t).serials = s.serials := rfl
@[simp] theorem State.setStore_mp0 (t : Store) : (s.setStore t).mp0 = s.mp0 := rfl
@[simp] theorem State.setStore_mp1 (t : Store) : (s.setStore t).mp1 = s.mp1 := rfl
@[simp] theorem State.setStore_holds (t : Store) : (s.setStore t).holds = s.holds := rfl
@[simp] theorem State.setStore_level (t : Store) : (s.setStore t).level = s.level := rfl
@[simp] theorem State.setStore_memory (t : Store) : (s.setStore t).memory = s.memory := rfl
@[simp] theorem State.setStore_freeCount (t : Store) : (s.setStore t).freeCount = s.freeCount := rfl
@[simp] theorem State.setStore_pending (t : Store) : (s.setStore t).pending = s.pending := rfl

@[simp] theorem State.unhold_readers (rl : Fin 4) : (s.unhold rl).readers = s.readers := rfl
@[simp] theorem State.unhold_queue (rl : Fin 4) : (s.unhold rl).queue = s.queue := rfl
@[simp] theorem State.unhold_drain (rl : Fin 4) : (s.unhold rl).drain = s.drain := rfl
@[simp] theorem State.unhold_labMap (rl : Fin 4) : (s.unhold rl).labMap = s.labMap := rfl
@[simp] theorem State.unhold_lines (rl : Fin 4) : (s.unhold rl).lines = s.lines := rfl
@[simp] theorem State.unhold_aims (rl : Fin 4) : (s.unhold rl).aims = s.aims := rfl
@[simp] theorem State.unhold_lots (rl : Fin 4) : (s.unhold rl).lots = s.lots := rfl
@[simp] theorem State.unhold_day (rl : Fin 4) : (s.unhold rl).day = s.day := rfl
@[simp] theorem State.unhold_alerts (rl : Fin 4) : (s.unhold rl).alerts = s.alerts := rfl
@[simp] theorem State.unhold_serials (rl : Fin 4) : (s.unhold rl).serials = s.serials := rfl
@[simp] theorem State.unhold_mp0 (rl : Fin 4) : (s.unhold rl).mp0 = s.mp0 := rfl
@[simp] theorem State.unhold_mp1 (rl : Fin 4) : (s.unhold rl).mp1 = s.mp1 := rfl
@[simp] theorem State.unhold_holds (rl : Fin 4) : (s.unhold rl).holds = s.holds := rfl
@[simp] theorem State.unhold_level (rl : Fin 4) : (s.unhold rl).level = s.level := rfl
@[simp] theorem State.unhold_store (rl : Fin 4) : (s.unhold rl).store = s.store := rfl
@[simp] theorem State.unhold_memory (rl : Fin 4) : (s.unhold rl).memory = s.memory := rfl
@[simp] theorem State.unhold_freeCount (rl : Fin 4) : (s.unhold rl).freeCount = s.freeCount := rfl
@[simp] theorem State.unhold_pending (rl : Fin 4) : (s.unhold rl).pending = s.pending := rfl

@[simp] theorem State.raise_readers (c : Cause) : (s.raise c).readers = s.readers := rfl
@[simp] theorem State.raise_heldOrder (c : Cause) : (s.raise c).heldOrder = s.heldOrder := rfl
@[simp] theorem State.raise_queue (c : Cause) : (s.raise c).queue = s.queue := rfl
@[simp] theorem State.raise_drain (c : Cause) : (s.raise c).drain = s.drain := rfl
@[simp] theorem State.raise_labMap (c : Cause) : (s.raise c).labMap = s.labMap := rfl
@[simp] theorem State.raise_lines (c : Cause) : (s.raise c).lines = s.lines := rfl
@[simp] theorem State.raise_aims (c : Cause) : (s.raise c).aims = s.aims := rfl
@[simp] theorem State.raise_lots (c : Cause) : (s.raise c).lots = s.lots := rfl
@[simp] theorem State.raise_day (c : Cause) : (s.raise c).day = s.day := rfl
@[simp] theorem State.raise_alerts (c : Cause) : (s.raise c).alerts = s.alerts := rfl
@[simp] theorem State.raise_serials (c : Cause) : (s.raise c).serials = s.serials := rfl
@[simp] theorem State.raise_holds (c : Cause) : (s.raise c).holds = s.holds := rfl
@[simp] theorem State.raise_level (c : Cause) : (s.raise c).level = s.level := rfl
@[simp] theorem State.raise_store (c : Cause) : (s.raise c).store = s.store := rfl
@[simp] theorem State.raise_memory (c : Cause) : (s.raise c).memory = s.memory := rfl
@[simp] theorem State.raise_freeCount (c : Cause) : (s.raise c).freeCount = s.freeCount := rfl
@[simp] theorem State.raise_pending (c : Cause) : (s.raise c).pending = s.pending := rfl

@[simp] theorem State.advance_readers (pos : ClosePos) : (s.advance pos).readers = s.readers := rfl
@[simp] theorem State.advance_heldOrder (pos : ClosePos) : (s.advance pos).heldOrder = s.heldOrder := rfl
@[simp] theorem State.advance_queue (pos : ClosePos) : (s.advance pos).queue = s.queue := rfl
@[simp] theorem State.advance_drain (pos : ClosePos) : (s.advance pos).drain = s.drain := rfl
@[simp] theorem State.advance_labMap (pos : ClosePos) : (s.advance pos).labMap = s.labMap := rfl
@[simp] theorem State.advance_lines (pos : ClosePos) : (s.advance pos).lines = s.lines := rfl
@[simp] theorem State.advance_aims (pos : ClosePos) : (s.advance pos).aims = s.aims := rfl
@[simp] theorem State.advance_lots (pos : ClosePos) : (s.advance pos).lots = s.lots := rfl
@[simp] theorem State.advance_alerts (pos : ClosePos) : (s.advance pos).alerts = s.alerts := rfl
@[simp] theorem State.advance_serials (pos : ClosePos) : (s.advance pos).serials = s.serials := rfl
@[simp] theorem State.advance_mp0 (pos : ClosePos) : (s.advance pos).mp0 = s.mp0 := rfl
@[simp] theorem State.advance_mp1 (pos : ClosePos) : (s.advance pos).mp1 = s.mp1 := rfl
@[simp] theorem State.advance_holds (pos : ClosePos) : (s.advance pos).holds = s.holds := rfl
@[simp] theorem State.advance_level (pos : ClosePos) : (s.advance pos).level = s.level := rfl
@[simp] theorem State.advance_store (pos : ClosePos) : (s.advance pos).store = s.store := rfl
@[simp] theorem State.advance_memory (pos : ClosePos) : (s.advance pos).memory = s.memory := rfl
@[simp] theorem State.advance_freeCount (pos : ClosePos) : (s.advance pos).freeCount = s.freeCount := rfl
@[simp] theorem State.advance_pending (pos : ClosePos) : (s.advance pos).pending = s.pending := rfl

@[simp] theorem State.setDay_day (d : DayUnit) : (s.setDay d).day = d := rfl
@[simp] theorem State.setStore_store (t : Store) : (s.setStore t).store = t := rfl
@[simp] theorem State.raise_mp0 (c : Cause) : (s.raise c).mp0 = s.mp0.setFlag c true := rfl
@[simp] theorem State.raise_mp1 (c : Cause) : (s.raise c).mp1 = s.mp1.setFlag c true := rfl
@[simp] theorem State.setReader_readers (rl : Fin 4) (r : Reader) : (s.setReader rl r).readers = s.readers.set rl r := rfl
@[simp] theorem State.setLine_lines (n : Fin 96) (c : Option LineCtx) : (s.setLine n c).lines = s.lines.set n c := rfl
@[simp] theorem State.setAim_aims (k : Fin 16) (a : AimSet) : (s.setAim k a).aims = s.aims.set k a := rfl
@[simp] theorem State.setLot_lots (k : Fin 16) (l : Option Lot) : (s.setLot k l).lots = s.lots.set k l := rfl

@[simp] theorem State.setPort_readers (p : Port) (u : PortUnit) : (s.setPort p u).readers = s.readers := by cases p <;> rfl
@[simp] theorem State.setPort_heldOrder (p : Port) (u : PortUnit) : (s.setPort p u).heldOrder = s.heldOrder := by cases p <;> rfl
@[simp] theorem State.setPort_queue (p : Port) (u : PortUnit) : (s.setPort p u).queue = s.queue := by cases p <;> rfl
@[simp] theorem State.setPort_drain (p : Port) (u : PortUnit) : (s.setPort p u).drain = s.drain := by cases p <;> rfl
@[simp] theorem State.setPort_labMap (p : Port) (u : PortUnit) : (s.setPort p u).labMap = s.labMap := by cases p <;> rfl
@[simp] theorem State.setPort_lines (p : Port) (u : PortUnit) : (s.setPort p u).lines = s.lines := by cases p <;> rfl
@[simp] theorem State.setPort_aims (p : Port) (u : PortUnit) : (s.setPort p u).aims = s.aims := by cases p <;> rfl
@[simp] theorem State.setPort_lots (p : Port) (u : PortUnit) : (s.setPort p u).lots = s.lots := by cases p <;> rfl
@[simp] theorem State.setPort_day (p : Port) (u : PortUnit) : (s.setPort p u).day = s.day := by cases p <;> rfl
@[simp] theorem State.setPort_alerts (p : Port) (u : PortUnit) : (s.setPort p u).alerts = s.alerts := by cases p <;> rfl
@[simp] theorem State.setPort_serials (p : Port) (u : PortUnit) : (s.setPort p u).serials = s.serials := by cases p <;> rfl
@[simp] theorem State.setPort_holds (p : Port) (u : PortUnit) : (s.setPort p u).holds = s.holds := by cases p <;> rfl
@[simp] theorem State.setPort_level (p : Port) (u : PortUnit) : (s.setPort p u).level = s.level := by cases p <;> rfl
@[simp] theorem State.setPort_store (p : Port) (u : PortUnit) : (s.setPort p u).store = s.store := by cases p <;> rfl
@[simp] theorem State.setPort_memory (p : Port) (u : PortUnit) : (s.setPort p u).memory = s.memory := by cases p <;> rfl
@[simp] theorem State.setPort_freeCount (p : Port) (u : PortUnit) : (s.setPort p u).freeCount = s.freeCount := by cases p <;> rfl
@[simp] theorem State.setPort_pending (p : Port) (u : PortUnit) : (s.setPort p u).pending = s.pending := by cases p <;> rfl

@[simp] theorem State.setPort_port (p : Port) (u : PortUnit) : (s.setPort p u).port p = u := by cases p <;> rfl
@[simp] theorem State.setPort_port_other (p : Port) (u : PortUnit) :
    (s.setPort p u).port (otherPort p) = s.port (otherPort p) := by cases p <;> rfl
@[simp] theorem State.setPort_setPort (p : Port) (u v : PortUnit) : (s.setPort p u).setPort p v = s.setPort p v := by
  cases p <;> rfl
@[simp] theorem State.setPort_same (p : Port) : s.setPort p (s.port p) = s := by cases p <;> rfl

@[simp] theorem State.answer_readers (p : Port) (c : Byte) (st : Status) (d : List Byte) :
    (s.answer p c st d).readers = s.readers := by cases p <;> rfl
@[simp] theorem State.answer_heldOrder (p : Port) (c : Byte) (st : Status) (d : List Byte) :
    (s.answer p c st d).heldOrder = s.heldOrder := by cases p <;> rfl
@[simp] theorem State.answer_queue (p : Port) (c : Byte) (st : Status) (d : List Byte) :
    (s.answer p c st d).queue = s.queue := by cases p <;> rfl
@[simp] theorem State.answer_drain (p : Port) (c : Byte) (st : Status) (d : List Byte) :
    (s.answer p c st d).drain = s.drain := by cases p <;> rfl
@[simp] theorem State.answer_labMap (p : Port) (c : Byte) (st : Status) (d : List Byte) :
    (s.answer p c st d).labMap = s.labMap := by cases p <;> rfl
@[simp] theorem State.answer_lines (p : Port) (c : Byte) (st : Status) (d : List Byte) :
    (s.answer p c st d).lines = s.lines := by cases p <;> rfl
@[simp] theorem State.answer_aims (p : Port) (c : Byte) (st : Status) (d : List Byte) :
    (s.answer p c st d).aims = s.aims := by cases p <;> rfl
@[simp] theorem State.answer_lots (p : Port) (c : Byte) (st : Status) (d : List Byte) :
    (s.answer p c st d).lots = s.lots := by cases p <;> rfl
@[simp] theorem State.answer_day (p : Port) (c : Byte) (st : Status) (d : List Byte) :
    (s.answer p c st d).day = s.day := by cases p <;> rfl
@[simp] theorem State.answer_alerts (p : Port) (c : Byte) (st : Status) (d : List Byte) :
    (s.answer p c st d).alerts = s.alerts := by cases p <;> rfl
@[simp] theorem State.answer_serials (p : Port) (c : Byte) (st : Status) (d : List Byte) :
    (s.answer p c st d).serials = s.serials := by cases p <;> rfl
@[simp] theorem State.answer_holds (p : Port) (c : Byte) (st : Status) (d : List Byte) :
    (s.answer p c st d).holds = s.holds := by cases p <;> rfl
@[simp] theorem State.answer_level (p : Port) (c : Byte) (st : Status) (d : List Byte) :
    (s.answer p c st d).level = s.level := by cases p <;> rfl
@[simp] theorem State.answer_store (p : Port) (c : Byte) (st : Status) (d : List Byte) :
    (s.answer p c st d).store = s.store := by cases p <;> rfl
@[simp] theorem State.answer_memory (p : Port) (c : Byte) (st : Status) (d : List Byte) :
    (s.answer p c st d).memory = s.memory := by cases p <;> rfl
@[simp] theorem State.answer_freeCount (p : Port) (c : Byte) (st : Status) (d : List Byte) :
    (s.answer p c st d).freeCount = s.freeCount := by cases p <;> rfl
@[simp] theorem State.answer_pending (p : Port) (c : Byte) (st : Status) (d : List Byte) :
    (s.answer p c st d).pending = s.pending := by cases p <;> rfl
@[simp] theorem State.raiseAt_readers (p : Port) (c : Cause) : (s.raiseAt p c).readers = s.readers := by cases p <;> rfl
@[simp] theorem State.raiseAt_heldOrder (p : Port) (c : Cause) : (s.raiseAt p c).heldOrder = s.heldOrder := by cases p <;> rfl
@[simp] theorem State.raiseAt_queue (p : Port) (c : Cause) : (s.raiseAt p c).queue = s.queue := by cases p <;> rfl
@[simp] theorem State.raiseAt_drain (p : Port) (c : Cause) : (s.raiseAt p c).drain = s.drain := by cases p <;> rfl
@[simp] theorem State.raiseAt_labMap (p : Port) (c : Cause) : (s.raiseAt p c).labMap = s.labMap := by cases p <;> rfl
@[simp] theorem State.raiseAt_lines (p : Port) (c : Cause) : (s.raiseAt p c).lines = s.lines := by cases p <;> rfl
@[simp] theorem State.raiseAt_aims (p : Port) (c : Cause) : (s.raiseAt p c).aims = s.aims := by cases p <;> rfl
@[simp] theorem State.raiseAt_lots (p : Port) (c : Cause) : (s.raiseAt p c).lots = s.lots := by cases p <;> rfl
@[simp] theorem State.raiseAt_day (p : Port) (c : Cause) : (s.raiseAt p c).day = s.day := by cases p <;> rfl
@[simp] theorem State.raiseAt_alerts (p : Port) (c : Cause) : (s.raiseAt p c).alerts = s.alerts := by cases p <;> rfl
@[simp] theorem State.raiseAt_serials (p : Port) (c : Cause) : (s.raiseAt p c).serials = s.serials := by cases p <;> rfl
@[simp] theorem State.raiseAt_holds (p : Port) (c : Cause) : (s.raiseAt p c).holds = s.holds := by cases p <;> rfl
@[simp] theorem State.raiseAt_level (p : Port) (c : Cause) : (s.raiseAt p c).level = s.level := by cases p <;> rfl
@[simp] theorem State.raiseAt_store (p : Port) (c : Cause) : (s.raiseAt p c).store = s.store := by cases p <;> rfl
@[simp] theorem State.raiseAt_memory (p : Port) (c : Cause) : (s.raiseAt p c).memory = s.memory := by cases p <;> rfl
@[simp] theorem State.raiseAt_freeCount (p : Port) (c : Cause) : (s.raiseAt p c).freeCount = s.freeCount := by cases p <;> rfl
@[simp] theorem State.raiseAt_pending (p : Port) (c : Cause) : (s.raiseAt p c).pending = s.pending := by cases p <;> rfl

/-- The port that answers: nothing in execution, the response in the buffer, everything else as it was. -/
theorem State.answer_port (p : Port) (c : Byte) (st : Status) (d : List Byte) :
    (s.answer p c st d).port p = { s.port p with executing := none, response := some ⟨st, c, d⟩ } := by
  cases p <;> rfl
theorem State.answer_port_other (p : Port) (c : Byte) (st : Status) (d : List Byte) :
    (s.answer p c st d).port (otherPort p) = s.port (otherPort p) := by cases p <;> rfl

@[simp] theorem State.setReader_reader_self (rl : Fin 4) (r : Reader) : (s.setReader rl r).reader rl = r := by
  simp [State.reader]
theorem State.setReader_reader_other {i j : Fin 4} (r : Reader) (h : i ≠ j) :
    (s.setReader i r).reader j = s.reader j := by simp [State.reader, Table.get_set_other _ _ h]
theorem State.setReader_reader (i j : Fin 4) (r : Reader) :
    (s.setReader i r).reader j = if i = j then r else s.reader j := by simp [State.reader, Table.get_set]
@[simp] theorem State.setLine_line_self (n : Fin 96) (c : Option LineCtx) : (s.setLine n c).line n = c := by
  simp [State.line]
theorem State.setLine_line (i j : Fin 96) (c : Option LineCtx) :
    (s.setLine i c).line j = if i = j then c else s.line j := by simp [State.line, Table.get_set]
@[simp] theorem State.setAim_aim_self (k : Fin 16) (a : AimSet) : (s.setAim k a).aim k = a := by simp [State.aim]
theorem State.setAim_aim (i j : Fin 16) (a : AimSet) : (s.setAim i a).aim j = if i = j then a else s.aim j := by
  simp [State.aim, Table.get_set]
@[simp] theorem State.setLot_lot_self (k : Fin 16) (l : Option Lot) : (s.setLot k l).lot k = l := by simp [State.lot]
theorem State.setLot_lot (i j : Fin 16) (l : Option Lot) : (s.setLot i l).lot j = if i = j then l else s.lot j := by
  simp [State.lot, Table.get_set]

/-- A port with a flag set keeps everything that is not a flag. -/
theorem PortUnit.setFlag_frame (u : PortUnit) (c : Cause) (b : Bool) :
    (u.setFlag c b).executing = u.executing ∧ (u.setFlag c b).response = u.response ∧
    (u.setFlag c b).selection = u.selection ∧ (u.setFlag c b).shiftedOut = u.shiftedOut ∧
    (u.setFlag c b).subscription = u.subscription ∧ (u.setFlag c b).masks = u.masks ∧
    (u.setFlag c b).groups = u.groups := by cases c <;> simp [PortUnit.setFlag]

end Sys2Proof.Machine
end

