-- ==== Sys2Proof/Laws/Alerts.lean ====
section
/-! SUPPORT. The alert list's operations change the alerts alone: the list, its serial counters and the waiting kinds. -/
namespace Sys2Proof.Machine

theorem State.setWaiting_quiet (s : State) (k : Key) (w : Option AlertKind) : (s.setWaiting k w).quiet = s.quiet := by
  unfold State.setWaiting
  split
  · split
    · rfl
    · rename_i n _ _ c h
      simp only [State.quiet, State.setLine]
      rw [Table.map_set_same]
      rw [show s.lines.get n = some c from h]; rfl
  · split
    · rfl
    · rename_i l _ _ _ _ c h
      simp only [State.quiet, State.setLot]
      rw [Table.map_set_same]
      rw [show s.lots.get l = some c from h]; rfl
  · rfl

/-- Writing a waiting kind leaves the list as it stands. -/
@[simp] theorem State.setWaiting_alerts (s : State) (k : Key) (w : Option AlertKind) :
    (s.setWaiting k w).alerts = s.alerts := by
  unfold State.setWaiting; repeat' split
  all_goals rfl

/-- Writing a waiting kind leaves the serial counters as they stand. -/
@[simp] theorem State.setWaiting_serials (s : State) (k : Key) (w : Option AlertKind) :
    (s.setWaiting k w).serials = s.serials := by
  unfold State.setWaiting; repeat' split
  all_goals rfl

/-- Clearing a key that waits clears that key alone. -/
theorem State.waitingAt_setWaiting_none (s : State) (k j : Key) (h : s.waitingAt k ≠ none) :
    (s.setWaiting k none).waitingAt j = if j = k then none else s.waitingAt j := by
  obtain ⟨ks, kv⟩ := k
  obtain ⟨js, jv⟩ := j
  cases ks with
  | line n =>
    cases hc : s.line n with
    | none => simp [State.waitingAt, hc] at h
    | some c =>
      simp only [State.setWaiting, hc]
      cases js with
      | lot k => cases jv <;> simp [State.waitingAt, State.lot]
      | line m =>
        by_cases e : n = m
        · subst e
          have hi : waitIndex kv = waitIndex jv ↔ jv = kv := by
            cases jv <;> cases kv <;> simp [waitIndex, Fin.ext_iff] <;> omega
          by_cases e : jv = kv <;> simp [State.waitingAt, Table.get_set, hi, e, hc]
        · have e' : m ≠ n := fun x => e x.symm
          simp [State.waitingAt, State.setLine_line, e, e']
  | lot k =>
    cases kv with
    | none => simp [State.waitingAt] at h
    | some v =>
      cases hc : s.lot k with
      | none => simp [State.waitingAt, hc] at h
      | some c =>
        simp only [State.setWaiting, hc]
        cases js with
        | line m => cases jv <;> simp [State.waitingAt, State.line]
        | lot m =>
          cases jv with
          | none => simp [State.waitingAt]
          | some w =>
            by_cases e : k = m
            · subst e
              have hi : v = w ↔ w = v := eq_comm
              by_cases e : w = v <;> simp [State.waitingAt, Table.get_set, hi, e, hc]
            · have e' : m ≠ k := fun x => e x.symm
              simp [State.waitingAt, State.setLot_lot, e, e']

/-- A moving in passes over keys at which nothing waits (R144). -/
theorem moveIn_append (before after : List Key) (s : State) (h : ∀ k ∈ before, s.waitingAt k = none) :
    moveIn (before ++ after) s = moveIn after s := by
  induction before with
  | nil => rfl
  | cons k ks ih =>
    simp only [List.cons_append, moveIn, h k (by simp)]
    exact ih fun j hj => h j (by simp [hj])

/-- Every key at which something waits is scanned (R144). -/
theorem mem_scanKeys {s : State} {k : Key} (h : s.waitingAt k ≠ none) : k ∈ scanKeys := by
  obtain ⟨x, v⟩ := k
  simp only [scanKeys, List.mem_append, List.mem_flatMap, List.mem_map, List.mem_finRange, true_and,
    List.mem_singleton]
  cases x <;> cases v <;> first | exact absurd rfl h | simp

theorem State.createEntry_quiet (s : State) (k : Key) (kind : AlertKind) (day : Nat) (amount : Option Int)
    (ports : PortSet) : (s.createEntry k kind day amount ports).quiet = s.quiet := by
  unfold State.createEntry; split <;> rfl

theorem moveIn_quiet (ks : List Key) (s : State) : (moveIn ks s).quiet = s.quiet := by
  induction ks generalizing s with
  | nil => rfl
  | cons k ks ih =>
    unfold moveIn
    split
    · exact ih s
    · split
      · rw [ih, State.setWaiting_quiet]
      · rw [State.createEntry_quiet, State.setWaiting_quiet]

theorem State.depart_quiet (s : State) (k : Fin 32) : (s.depart k).quiet = s.quiet := by
  unfold State.depart; rw [moveIn_quiet]; rfl

theorem State.departAll_quiet (s : State) (ks : List (Fin 32)) : (s.departAll ks).quiet = s.quiet := by
  unfold State.departAll
  induction ks generalizing s with
  | nil => rfl
  | cons k ks ih => rw [List.foldl_cons, ih, State.depart_quiet]

theorem State.merge_quiet (s : State) (e : AlertEntry) (o : Offer) : (s.merge e o).quiet = s.quiet := rfl

theorem State.offer_quiet (s : State) (o : Offer) : (s.offer o).quiet = s.quiet := by
  unfold State.offer
  split
  · split
    · rw [State.depart_quiet, State.setWaiting_quiet]
    · exact State.setWaiting_quiet ..
  · split
    · rfl
    · split
      · exact State.createEntry_quiet ..
      · exact State.setWaiting_quiet ..

theorem State.offerAll_quiet (s : State) (os : List Offer) : (s.offerAll os).quiet = s.quiet := by
  unfold State.offerAll
  induction os generalizing s with
  | nil => rfl
  | cons o os ih => rw [List.foldl_cons, ih, State.offer_quiet]

/-- Offers leave the day unit as it stands. -/
@[simp] theorem State.offerAll_day (s : State) (os : List Offer) : (s.offerAll os).day = s.day := by
  have h : (s.offerAll os).quiet.day = s.quiet.day := by rw [State.offerAll_quiet]
  exact h

/-- States that differ in their alerts alone agree on every other field, on every line but for its waiting kinds and on
every slot but for its. -/
theorem State.quiet_fields {s t : State} (h : t.quiet = s.quiet) :
    t.readers = s.readers ∧ t.heldOrder = s.heldOrder ∧ t.queue = s.queue ∧ t.drain = s.drain ∧ t.labMap = s.labMap ∧
    t.aims = s.aims ∧ t.day = s.day ∧ t.mp0 = s.mp0 ∧ t.mp1 = s.mp1 ∧ t.holds = s.holds ∧ t.level = s.level ∧
    t.store = s.store ∧ t.memory = s.memory ∧ t.freeCount = s.freeCount ∧ t.pending = s.pending ∧
    (∀ n, (t.line n).map LineCtx.unwaited = (s.line n).map LineCtx.unwaited) ∧
    ∀ k, (t.lot k).map Lot.unwaited = (s.lot k).map Lot.unwaited := by
  simp only [State.quiet, State.mk.injEq] at h
  obtain ⟨h1, h2, h3, h4, h5, h6, h7, h8, h9, _, _, h12, h13, h14, h15, h16, h17, h18, h19⟩ := h
  refine ⟨h1, h2, h3, h4, h5, h7, h9, h12, h13, h14, h15, h16, h17, h18, h19, fun n => ?_, fun k => ?_⟩
  · have := congrArg (fun u => u.get n) h6; simpa [State.line] using this
  · have := congrArg (fun u => u.get k) h8; simpa [State.lot] using this

end Sys2Proof.Machine
end

