-- ==== Sys2Proof/Laws/Commands.lean ====
section
/-! SUPPORT. The path of a command (R159): what carrying one out can do, said once for all of them. -/
namespace Sys2Proof.Machine

/-- The hold check passes exactly when the caller holds the item, where one is needed. -/
theorem holdRefusal_none {s : State} {p : Port} {item : Option Item} :
    holdRefusal s p item = none ↔ ∀ i, item = some i → s.holder i = some p := by
  cases item with
  | none => simp [holdRefusal]
  | some i =>
    cases h : s.holder i with
    | none => simp [holdRefusal, h]
    | some q => by_cases e : q = p <;> simp [holdRefusal, h, e]

/-- Steps 4 to 7 of R159 pass exactly when the command is permitted. -/
theorem commonRefusal_none {s : State} {p : Port} {c : Command} {item : Option Item} :
    commonRefusal s p c item = none ↔ s.permits p c item := by
  unfold commonRefusal State.permits
  by_cases h1 : s.store.loading = true <;> by_cases h2 : c = .readStore <;>
    by_cases h3 : s.store.isSaving = true <;> by_cases h4 : c.changesImage = true <;>
    by_cases h5 : c.locked s.level = true <;>
    simp_all [holdRefusal_none]

section
variable {α : Type} {c : Command} {p : Port} {s : State} {parse : List Byte → Except Status α}
  {item : α → Option Item} {act : α → State → Answer}

/-- A command that is in execution, well formed and permitted acts. -/
theorem runCommand_go {params : List Byte} {a : α} (hx : s.executes p c params) (hl : params.length = c.paramLen)
    (hp : parse params = .ok a) (hok : s.permits p c (item a)) :
    runCommand c p s parse item act =
      match act a s with
      | .refuse st => s.answer p c.code st []
      | .done s' st data => s'.answer p c.code st data := by
  cases h : act a s <;>
    simp [runCommand, prepare, show (s.port p).executing = _ from hx, hl, hp, commonRefusal_none.mpr hok, h]

/-- Where another command or none is in execution, the event does not occur (log 2). -/
theorem runCommand_notNow (h : ∀ params, ¬ s.executes p c params) : runCommand c p s parse item act = s := by
  have : prepare c p s parse item = .notNow := by
    unfold prepare
    cases e : (s.port p).executing with
    | none => rfl
    | some t =>
      have : t.code ≠ c.code := fun he => h t.params (by simp [State.executes, e, ← he])
      simp [this]
  simp [runCommand, this]

/-- A parameter length other than the command's is refused BAD-PARAM (step 2 of R159). -/
theorem runCommand_length {params : List Byte} (hx : s.executes p c params) (hl : params.length ≠ c.paramLen) :
    runCommand c p s parse item act = s.answer p c.code .badParam [] := by
  simp [runCommand, prepare, show (s.port p).executing = _ from hx, hl]

/-- Parameter bytes that name nothing or lie outside their range are refused with the reader's status (step 3). -/
theorem runCommand_parse {params : List Byte} {st : Status} (hx : s.executes p c params)
    (hl : params.length = c.paramLen) (hp : parse params = .error st) :
    runCommand c p s parse item act = s.answer p c.code st [] := by
  simp [runCommand, prepare, show (s.port p).executing = _ from hx, hl, hp]

/-- A command that is well formed and not permitted is refused with the first failing check's status. -/
theorem runCommand_common {params : List Byte} {a : α} {st : Status} (hx : s.executes p c params)
    (hl : params.length = c.paramLen) (hp : parse params = .ok a) (hc : commonRefusal s p c (item a) = some st) :
    runCommand c p s parse item act = s.answer p c.code st [] := by
  simp [runCommand, prepare, show (s.port p).executing = _ from hx, hl, hp, hc]

/-- Everything carrying out a command can do: nothing, a refusal that changes the port's buffer alone, or its act's
effect with its response. -/
theorem runCommand_cases :
    runCommand c p s parse item act = s ∨
    (∃ params st, s.executes p c params ∧ runCommand c p s parse item act = s.answer p c.code st []) ∨
    ∃ params a s' st data, s.executes p c params ∧ parse params = .ok a ∧ s.permits p c (item a) ∧
      act a s = .done s' st data ∧ runCommand c p s parse item act = s'.answer p c.code st data := by
  by_cases h : ∃ params, s.executes p c params
  · obtain ⟨params, hx⟩ := h
    right
    by_cases hl : params.length = c.paramLen
    · cases hp : parse params with
      | error st => exact .inl ⟨params, st, hx, runCommand_parse hx hl hp⟩
      | ok a =>
        cases hc : commonRefusal s p c (item a) with
        | some st => exact .inl ⟨params, st, hx, runCommand_common hx hl hp hc⟩
        | none =>
          have hok := commonRefusal_none.mp hc
          have := runCommand_go (act := act) hx hl hp hok
          cases ha : act a s with
          | refuse st => rw [ha] at this; exact .inl ⟨params, st, hx, this⟩
          | done s' st data =>
            rw [ha] at this
            exact .inr ⟨params, a, s', st, data, hx, hp, hok, ha, this⟩
    · exact .inl ⟨params, .badParam, hx, runCommand_length hx hl⟩
  · exact .inl (runCommand_notNow fun params hx => h ⟨params, hx⟩)

/-- What the two ends of a command keep, a command keeps: the form in which a law of the state is proved of a command. -/
theorem runCommand_keeps (P : State → Prop)
    (hans : ∀ t code st data, P t → P (t.answer p code st data)) (hs : P s)
    (hact : ∀ params a s' st data, s.executes p c params → parse params = .ok a → s.permits p c (item a) →
      act a s = .done s' st data → P s') :
    P (runCommand c p s parse item act) := by
  rcases runCommand_cases (c := c) (p := p) (s := s) (parse := parse) (item := item) (act := act) with
    h | ⟨_, st, _, h⟩ | ⟨params, a, s', st, data, hx, hp, hok, ha, h⟩
  · rw [h]; exact hs
  · rw [h]; exact hans _ _ _ _ hs
  · rw [h]; exact hans _ _ _ _ (hact params a s' st data hx hp hok ha)
end

end Sys2Proof.Machine
end

