-- ==== Sys2Proof/Laws/Day.lean ====
section
/-! SUPPORT. The order of the pass (R127) and what a take leaves of the day. -/
namespace Sys2Proof.Machine

/-- After the last item the stage ends. -/
theorem nextItem_last {n : Nat} {k : Fin n} (h : k.val + 1 = n) : nextItem k = none := by
  simp [nextItem, h]

/-- The item that follows is the next number. -/
theorem nextItem_more {n : Nat} {k : Fin n} (h : k.val + 1 < n) : nextItem k = some ⟨k.val + 1, h⟩ := by
  simp [nextItem, h]

/-- A record that is placed changes its line and the alerts, and nothing else (R57). -/
theorem State.place_fields (s : State) (rec : StripRecord) (c : LineCtx) (l : Lot) :
    (s.place rec c l).readers = s.readers ∧ (s.place rec c l).heldOrder = s.heldOrder ∧
    (s.place rec c l).queue = s.queue ∧ (s.place rec c l).drain = s.drain ∧ (s.place rec c l).labMap = s.labMap ∧
    (s.place rec c l).aims = s.aims ∧ (s.place rec c l).day = s.day ∧ (s.place rec c l).holds = s.holds ∧
    (s.place rec c l).level = s.level ∧ (s.place rec c l).store = s.store ∧ (s.place rec c l).memory = s.memory ∧
    (s.place rec c l).pending = s.pending := by
  have h := State.quiet_fields (State.offerAll_quiet
    (s.setLine rec.strip.line (some (placed c rec (s.aim c.aim).active (compute rec.strip l (s.aim c.aim).active))))
    (takeOffers c rec (compute rec.strip l (s.aim c.aim).active) s.day.desk.tolerance))
  obtain ⟨h1, h2, h3, h4, h5, h6, h7, _, _, h10, h11, h12, h13, _, h15, _⟩ := h
  exact ⟨h1, h2, h3, h4, h5, h6, h7, h10, h11, h12, h13, h15⟩

end Sys2Proof.Machine
end

