-- ==== Sys2Proof/Laws/Events.lean ====
section
/-! SUPPORT. What each shared operation of the events leaves as it was, field by field. -/
namespace Sys2Proof.Machine

variable (s : State)

@[simp] theorem State.chargeFault_heldOrder (rl : Fin 4) (c : FaultCode) (o : Origin) (lab : Option Nat) : (s.chargeFault rl c o lab).heldOrder = s.heldOrder := rfl
@[simp] theorem State.chargeFault_queue (rl : Fin 4) (c : FaultCode) (o : Origin) (lab : Option Nat) : (s.chargeFault rl c o lab).queue = s.queue := rfl
@[simp] theorem State.chargeFault_drain (rl : Fin 4) (c : FaultCode) (o : Origin) (lab : Option Nat) : (s.chargeFault rl c o lab).drain = s.drain := rfl
@[simp] theorem State.chargeFault_labMap (rl : Fin 4) (c : FaultCode) (o : Origin) (lab : Option Nat) : (s.chargeFault rl c o lab).labMap = s.labMap := rfl
@[simp] theorem State.chargeFault_lines (rl : Fin 4) (c : FaultCode) (o : Origin) (lab : Option Nat) : (s.chargeFault rl c o lab).lines = s.lines := rfl
@[simp] theorem State.chargeFault_aims (rl : Fin 4) (c : FaultCode) (o : Origin) (lab : Option Nat) : (s.chargeFault rl c o lab).aims = s.aims := rfl
@[simp] theorem State.chargeFault_lots (rl : Fin 4) (c : FaultCode) (o : Origin) (lab : Option Nat) : (s.chargeFault rl c o lab).lots = s.lots := rfl
@[simp] theorem State.chargeFault_day (rl : Fin 4) (c : FaultCode) (o : Origin) (lab : Option Nat) : (s.chargeFault rl c o lab).day = s.day := rfl
@[simp] theorem State.chargeFault_alerts (rl : Fin 4) (c : FaultCode) (o : Origin) (lab : Option Nat) : (s.chargeFault rl c o lab).alerts = s.alerts := rfl
@[simp] theorem State.chargeFault_serials (rl : Fin 4) (c : FaultCode) (o : Origin) (lab : Option Nat) : (s.chargeFault rl c o lab).serials = s.serials := rfl
@[simp] theorem State.chargeFault_holds (rl : Fin 4) (c : FaultCode) (o : Origin) (lab : Option Nat) : (s.chargeFault rl c o lab).holds = s.holds := rfl
@[simp] theorem State.chargeFault_level (rl : Fin 4) (c : FaultCode) (o : Origin) (lab : Option Nat) : (s.chargeFault rl c o lab).level = s.level := rfl
@[simp] theorem State.chargeFault_store (rl : Fin 4) (c : FaultCode) (o : Origin) (lab : Option Nat) : (s.chargeFault rl c o lab).store = s.store := rfl
@[simp] theorem State.chargeFault_memory (rl : Fin 4) (c : FaultCode) (o : Origin) (lab : Option Nat) : (s.chargeFault rl c o lab).memory = s.memory := rfl
@[simp] theorem State.chargeFault_freeCount (rl : Fin 4) (c : FaultCode) (o : Origin) (lab : Option Nat) : (s.chargeFault rl c o lab).freeCount = s.freeCount := rfl
@[simp] theorem State.chargeFault_pending (rl : Fin 4) (c : FaultCode) (o : Origin) (lab : Option Nat) : (s.chargeFault rl c o lab).pending = s.pending := rfl

@[simp] theorem State.nakFrame_heldOrder (rl : Fin 4) (c : Nak) (lab : Option Nat) : (s.nakFrame rl c lab).heldOrder = s.heldOrder := rfl
@[simp] theorem State.nakFrame_queue (rl : Fin 4) (c : Nak) (lab : Option Nat) : (s.nakFrame rl c lab).queue = s.queue := rfl
@[simp] theorem State.nakFrame_drain (rl : Fin 4) (c : Nak) (lab : Option Nat) : (s.nakFrame rl c lab).drain = s.drain := rfl
@[simp] theorem State.nakFrame_labMap (rl : Fin 4) (c : Nak) (lab : Option Nat) : (s.nakFrame rl c lab).labMap = s.labMap := rfl
@[simp] theorem State.nakFrame_lines (rl : Fin 4) (c : Nak) (lab : Option Nat) : (s.nakFrame rl c lab).lines = s.lines := rfl
@[simp] theorem State.nakFrame_aims (rl : Fin 4) (c : Nak) (lab : Option Nat) : (s.nakFrame rl c lab).aims = s.aims := rfl
@[simp] theorem State.nakFrame_lots (rl : Fin 4) (c : Nak) (lab : Option Nat) : (s.nakFrame rl c lab).lots = s.lots := rfl
@[simp] theorem State.nakFrame_day (rl : Fin 4) (c : Nak) (lab : Option Nat) : (s.nakFrame rl c lab).day = s.day := rfl
@[simp] theorem State.nakFrame_alerts (rl : Fin 4) (c : Nak) (lab : Option Nat) : (s.nakFrame rl c lab).alerts = s.alerts := rfl
@[simp] theorem State.nakFrame_serials (rl : Fin 4) (c : Nak) (lab : Option Nat) : (s.nakFrame rl c lab).serials = s.serials := rfl
@[simp] theorem State.nakFrame_holds (rl : Fin 4) (c : Nak) (lab : Option Nat) : (s.nakFrame rl c lab).holds = s.holds := rfl
@[simp] theorem State.nakFrame_level (rl : Fin 4) (c : Nak) (lab : Option Nat) : (s.nakFrame rl c lab).level = s.level := rfl
@[simp] theorem State.nakFrame_store (rl : Fin 4) (c : Nak) (lab : Option Nat) : (s.nakFrame rl c lab).store = s.store := rfl
@[simp] theorem State.nakFrame_memory (rl : Fin 4) (c : Nak) (lab : Option Nat) : (s.nakFrame rl c lab).memory = s.memory := rfl
@[simp] theorem State.nakFrame_freeCount (rl : Fin 4) (c : Nak) (lab : Option Nat) : (s.nakFrame rl c lab).freeCount = s.freeCount := rfl
@[simp] theorem State.nakFrame_pending (rl : Fin 4) (c : Nak) (lab : Option Nat) : (s.nakFrame rl c lab).pending = s.pending := rfl

@[simp] theorem State.appendStrip_heldOrder (rl : Fin 4) (x : Strip) : (s.appendStrip rl x).heldOrder = s.heldOrder := rfl
@[simp] theorem State.appendStrip_drain (rl : Fin 4) (x : Strip) : (s.appendStrip rl x).drain = s.drain := rfl
@[simp] theorem State.appendStrip_labMap (rl : Fin 4) (x : Strip) : (s.appendStrip rl x).labMap = s.labMap := rfl
@[simp] theorem State.appendStrip_lines (rl : Fin 4) (x : Strip) : (s.appendStrip rl x).lines = s.lines := rfl
@[simp] theorem State.appendStrip_aims (rl : Fin 4) (x : Strip) : (s.appendStrip rl x).aims = s.aims := rfl
@[simp] theorem State.appendStrip_lots (rl : Fin 4) (x : Strip) : (s.appendStrip rl x).lots = s.lots := rfl
@[simp] theorem State.appendStrip_day (rl : Fin 4) (x : Strip) : (s.appendStrip rl x).day = s.day := rfl
@[simp] theorem State.appendStrip_alerts (rl : Fin 4) (x : Strip) : (s.appendStrip rl x).alerts = s.alerts := rfl
@[simp] theorem State.appendStrip_serials (rl : Fin 4) (x : Strip) : (s.appendStrip rl x).serials = s.serials := rfl
@[simp] theorem State.appendStrip_mp0 (rl : Fin 4) (x : Strip) : (s.appendStrip rl x).mp0 = s.mp0 := rfl
@[simp] theorem State.appendStrip_mp1 (rl : Fin 4) (x : Strip) : (s.appendStrip rl x).mp1 = s.mp1 := rfl
@[simp] theorem State.appendStrip_holds (rl : Fin 4) (x : Strip) : (s.appendStrip rl x).holds = s.holds := rfl
@[simp] theorem State.appendStrip_level (rl : Fin 4) (x : Strip) : (s.appendStrip rl x).level = s.level := rfl
@[simp] theorem State.appendStrip_store (rl : Fin 4) (x : Strip) : (s.appendStrip rl x).store = s.store := rfl
@[simp] theorem State.appendStrip_memory (rl : Fin 4) (x : Strip) : (s.appendStrip rl x).memory = s.memory := rfl
@[simp] theorem State.appendStrip_freeCount (rl : Fin 4) (x : Strip) : (s.appendStrip rl x).freeCount = s.freeCount := rfl
@[simp] theorem State.appendStrip_pending (rl : Fin 4) (x : Strip) : (s.appendStrip rl x).pending = s.pending := rfl

@[simp] theorem State.holdStrip_queue (rl : Fin 4) (x : Strip) : (s.holdStrip rl x).queue = s.queue := rfl
@[simp] theorem State.holdStrip_drain (rl : Fin 4) (x : Strip) : (s.holdStrip rl x).drain = s.drain := rfl
@[simp] theorem State.holdStrip_labMap (rl : Fin 4) (x : Strip) : (s.holdStrip rl x).labMap = s.labMap := rfl
@[simp] theorem State.holdStrip_lines (rl : Fin 4) (x : Strip) : (s.holdStrip rl x).lines = s.lines := rfl
@[simp] theorem State.holdStrip_aims (rl : Fin 4) (x : Strip) : (s.holdStrip rl x).aims = s.aims := rfl
@[simp] theorem State.holdStrip_lots (rl : Fin 4) (x : Strip) : (s.holdStrip rl x).lots = s.lots := rfl
@[simp] theorem State.holdStrip_day (rl : Fin 4) (x : Strip) : (s.holdStrip rl x).day = s.day := rfl
@[simp] theorem State.holdStrip_alerts (rl : Fin 4) (x : Strip) : (s.holdStrip rl x).alerts = s.alerts := rfl
@[simp] theorem State.holdStrip_serials (rl : Fin 4) (x : Strip) : (s.holdStrip rl x).serials = s.serials := rfl
@[simp] theorem State.holdStrip_mp0 (rl : Fin 4) (x : Strip) : (s.holdStrip rl x).mp0 = s.mp0 := rfl
@[simp] theorem State.holdStrip_mp1 (rl : Fin 4) (x : Strip) : (s.holdStrip rl x).mp1 = s.mp1 := rfl
@[simp] theorem State.holdStrip_holds (rl : Fin 4) (x : Strip) : (s.holdStrip rl x).holds = s.holds := rfl
@[simp] theorem State.holdStrip_level (rl : Fin 4) (x : Strip) : (s.holdStrip rl x).level = s.level := rfl
@[simp] theorem State.holdStrip_store (rl : Fin 4) (x : Strip) : (s.holdStrip rl x).store = s.store := rfl
@[simp] theorem State.holdStrip_memory (rl : Fin 4) (x : Strip) : (s.holdStrip rl x).memory = s.memory := rfl
@[simp] theorem State.holdStrip_freeCount (rl : Fin 4) (x : Strip) : (s.holdStrip rl x).freeCount = s.freeCount := rfl
@[simp] theorem State.holdStrip_pending (rl : Fin 4) (x : Strip) : (s.holdStrip rl x).pending = s.pending := rfl

@[simp] theorem State.acceptCal_heldOrder (rl : Fin 4) (f : CalFrame) : (s.acceptCal rl f).heldOrder = s.heldOrder := rfl
@[simp] theorem State.acceptCal_queue (rl : Fin 4) (f : CalFrame) : (s.acceptCal rl f).queue = s.queue := rfl
@[simp] theorem State.acceptCal_drain (rl : Fin 4) (f : CalFrame) : (s.acceptCal rl f).drain = s.drain := rfl
@[simp] theorem State.acceptCal_labMap (rl : Fin 4) (f : CalFrame) : (s.acceptCal rl f).labMap = s.labMap := rfl
@[simp] theorem State.acceptCal_lines (rl : Fin 4) (f : CalFrame) : (s.acceptCal rl f).lines = s.lines := rfl
@[simp] theorem State.acceptCal_aims (rl : Fin 4) (f : CalFrame) : (s.acceptCal rl f).aims = s.aims := rfl
@[simp] theorem State.acceptCal_lots (rl : Fin 4) (f : CalFrame) : (s.acceptCal rl f).lots = s.lots := rfl
@[simp] theorem State.acceptCal_day (rl : Fin 4) (f : CalFrame) : (s.acceptCal rl f).day = s.day := rfl
@[simp] theorem State.acceptCal_alerts (rl : Fin 4) (f : CalFrame) : (s.acceptCal rl f).alerts = s.alerts := rfl
@[simp] theorem State.acceptCal_serials (rl : Fin 4) (f : CalFrame) : (s.acceptCal rl f).serials = s.serials := rfl
@[simp] theorem State.acceptCal_mp0 (rl : Fin 4) (f : CalFrame) : (s.acceptCal rl f).mp0 = s.mp0 := rfl
@[simp] theorem State.acceptCal_mp1 (rl : Fin 4) (f : CalFrame) : (s.acceptCal rl f).mp1 = s.mp1 := rfl
@[simp] theorem State.acceptCal_holds (rl : Fin 4) (f : CalFrame) : (s.acceptCal rl f).holds = s.holds := rfl
@[simp] theorem State.acceptCal_level (rl : Fin 4) (f : CalFrame) : (s.acceptCal rl f).level = s.level := rfl
@[simp] theorem State.acceptCal_store (rl : Fin 4) (f : CalFrame) : (s.acceptCal rl f).store = s.store := rfl
@[simp] theorem State.acceptCal_memory (rl : Fin 4) (f : CalFrame) : (s.acceptCal rl f).memory = s.memory := rfl
@[simp] theorem State.acceptCal_freeCount (rl : Fin 4) (f : CalFrame) : (s.acceptCal rl f).freeCount = s.freeCount := rfl
@[simp] theorem State.acceptCal_pending (rl : Fin 4) (f : CalFrame) : (s.acceptCal rl f).pending = s.pending := rfl

@[simp] theorem State.takeRequest_heldOrder (c : CloseCause) : (s.takeRequest c).heldOrder = s.heldOrder := rfl
@[simp] theorem State.takeRequest_queue (c : CloseCause) : (s.takeRequest c).queue = s.queue := rfl
@[simp] theorem State.takeRequest_labMap (c : CloseCause) : (s.takeRequest c).labMap = s.labMap := rfl
@[simp] theorem State.takeRequest_lines (c : CloseCause) : (s.takeRequest c).lines = s.lines := rfl
@[simp] theorem State.takeRequest_aims (c : CloseCause) : (s.takeRequest c).aims = s.aims := rfl
@[simp] theorem State.takeRequest_lots (c : CloseCause) : (s.takeRequest c).lots = s.lots := rfl
@[simp] theorem State.takeRequest_alerts (c : CloseCause) : (s.takeRequest c).alerts = s.alerts := rfl
@[simp] theorem State.takeRequest_serials (c : CloseCause) : (s.takeRequest c).serials = s.serials := rfl
@[simp] theorem State.takeRequest_mp0 (c : CloseCause) : (s.takeRequest c).mp0 = s.mp0 := rfl
@[simp] theorem State.takeRequest_mp1 (c : CloseCause) : (s.takeRequest c).mp1 = s.mp1 := rfl
@[simp] theorem State.takeRequest_holds (c : CloseCause) : (s.takeRequest c).holds = s.holds := rfl
@[simp] theorem State.takeRequest_level (c : CloseCause) : (s.takeRequest c).level = s.level := rfl
@[simp] theorem State.takeRequest_store (c : CloseCause) : (s.takeRequest c).store = s.store := rfl
@[simp] theorem State.takeRequest_memory (c : CloseCause) : (s.takeRequest c).memory = s.memory := rfl
@[simp] theorem State.takeRequest_freeCount (c : CloseCause) : (s.takeRequest c).freeCount = s.freeCount := rfl
@[simp] theorem State.takeRequest_pending (c : CloseCause) : (s.takeRequest c).pending = s.pending := rfl

@[simp] theorem State.endStore_readers (o : LastOutcome) : (s.endStore o).readers = s.readers := rfl
@[simp] theorem State.endStore_heldOrder (o : LastOutcome) : (s.endStore o).heldOrder = s.heldOrder := rfl
@[simp] theorem State.endStore_queue (o : LastOutcome) : (s.endStore o).queue = s.queue := rfl
@[simp] theorem State.endStore_drain (o : LastOutcome) : (s.endStore o).drain = s.drain := rfl
@[simp] theorem State.endStore_labMap (o : LastOutcome) : (s.endStore o).labMap = s.labMap := rfl
@[simp] theorem State.endStore_lines (o : LastOutcome) : (s.endStore o).lines = s.lines := rfl
@[simp] theorem State.endStore_aims (o : LastOutcome) : (s.endStore o).aims = s.aims := rfl
@[simp] theorem State.endStore_lots (o : LastOutcome) : (s.endStore o).lots = s.lots := rfl
@[simp] theorem State.endStore_day (o : LastOutcome) : (s.endStore o).day = s.day := rfl
@[simp] theorem State.endStore_alerts (o : LastOutcome) : (s.endStore o).alerts = s.alerts := rfl
@[simp] theorem State.endStore_serials (o : LastOutcome) : (s.endStore o).serials = s.serials := rfl
@[simp] theorem State.endStore_holds (o : LastOutcome) : (s.endStore o).holds = s.holds := rfl
@[simp] theorem State.endStore_level (o : LastOutcome) : (s.endStore o).level = s.level := rfl
@[simp] theorem State.endStore_memory (o : LastOutcome) : (s.endStore o).memory = s.memory := rfl
@[simp] theorem State.endStore_freeCount (o : LastOutcome) : (s.endStore o).freeCount = s.freeCount := rfl
@[simp] theorem State.endStore_pending (o : LastOutcome) : (s.endStore o).pending = s.pending := rfl

@[simp] theorem State.resumeTransfer_readers : (s.resumeTransfer).readers = s.readers := by
  unfold State.resumeTransfer; split <;> rfl
@[simp] theorem State.resumeTransfer_heldOrder : (s.resumeTransfer).heldOrder = s.heldOrder := by
  unfold State.resumeTransfer; split <;> rfl
@[simp] theorem State.resumeTransfer_queue : (s.resumeTransfer).queue = s.queue := by
  unfold State.resumeTransfer; split <;> rfl
@[simp] theorem State.resumeTransfer_drain : (s.resumeTransfer).drain = s.drain := by
  unfold State.resumeTransfer; split <;> rfl
@[simp] theorem State.resumeTransfer_labMap : (s.resumeTransfer).labMap = s.labMap := by
  unfold State.resumeTransfer; split <;> rfl
@[simp] theorem State.resumeTransfer_lines : (s.resumeTransfer).lines = s.lines := by
  unfold State.resumeTransfer; split <;> rfl
@[simp] theorem State.resumeTransfer_aims : (s.resumeTransfer).aims = s.aims := by
  unfold State.resumeTransfer; split <;> rfl
@[simp] theorem State.resumeTransfer_lots : (s.resumeTransfer).lots = s.lots := by
  unfold State.resumeTransfer; split <;> rfl
@[simp] theorem State.resumeTransfer_alerts : (s.resumeTransfer).alerts = s.alerts := by
  unfold State.resumeTransfer; split <;> rfl
@[simp] theorem State.resumeTransfer_serials : (s.resumeTransfer).serials = s.serials := by
  unfold State.resumeTransfer; split <;> rfl
@[simp] theorem State.resumeTransfer_mp0 : (s.resumeTransfer).mp0 = s.mp0 := by
  unfold State.resumeTransfer; split <;> rfl
@[simp] theorem State.resumeTransfer_mp1 : (s.resumeTransfer).mp1 = s.mp1 := by
  unfold State.resumeTransfer; split <;> rfl
@[simp] theorem State.resumeTransfer_holds : (s.resumeTransfer).holds = s.holds := by
  unfold State.resumeTransfer; split <;> rfl
@[simp] theorem State.resumeTransfer_level : (s.resumeTransfer).level = s.level := by
  unfold State.resumeTransfer; split <;> rfl
@[simp] theorem State.resumeTransfer_store : (s.resumeTransfer).store = s.store := by
  unfold State.resumeTransfer; split <;> rfl
@[simp] theorem State.resumeTransfer_memory : (s.resumeTransfer).memory = s.memory := by
  unfold State.resumeTransfer; split <;> rfl
@[simp] theorem State.resumeTransfer_freeCount : (s.resumeTransfer).freeCount = s.freeCount := by
  unfold State.resumeTransfer; split <;> rfl
@[simp] theorem State.resumeTransfer_pending : (s.resumeTransfer).pending = s.pending := by
  unfold State.resumeTransfer; split <;> rfl

@[simp] theorem State.endSave_readers (o : LastOutcome) : (s.endSave o).readers = s.readers := by
  simp [State.endSave]
@[simp] theorem State.endSave_heldOrder (o : LastOutcome) : (s.endSave o).heldOrder = s.heldOrder := by
  simp [State.endSave]
@[simp] theorem State.endSave_queue (o : LastOutcome) : (s.endSave o).queue = s.queue := by
  simp [State.endSave]
@[simp] theorem State.endSave_drain (o : LastOutcome) : (s.endSave o).drain = s.drain := by
  simp [State.endSave]
@[simp] theorem State.endSave_labMap (o : LastOutcome) : (s.endSave o).labMap = s.labMap := by
  simp [State.endSave]
@[simp] theorem State.endSave_lines (o : LastOutcome) : (s.endSave o).lines = s.lines := by
  simp [State.endSave]
@[simp] theorem State.endSave_aims (o : LastOutcome) : (s.endSave o).aims = s.aims := by
  simp [State.endSave]
@[simp] theorem State.endSave_lots (o : LastOutcome) : (s.endSave o).lots = s.lots := by
  simp [State.endSave]
@[simp] theorem State.endSave_alerts (o : LastOutcome) : (s.endSave o).alerts = s.alerts := by
  simp [State.endSave]
@[simp] theorem State.endSave_serials (o : LastOutcome) : (s.endSave o).serials = s.serials := by
  simp [State.endSave]
@[simp] theorem State.endSave_holds (o : LastOutcome) : (s.endSave o).holds = s.holds := by
  simp [State.endSave]
@[simp] theorem State.endSave_level (o : LastOutcome) : (s.endSave o).level = s.level := by
  simp [State.endSave]
@[simp] theorem State.endSave_memory (o : LastOutcome) : (s.endSave o).memory = s.memory := by
  simp [State.endSave]
@[simp] theorem State.endSave_freeCount (o : LastOutcome) : (s.endSave o).freeCount = s.freeCount := by
  simp [State.endSave]
@[simp] theorem State.endSave_pending (o : LastOutcome) : (s.endSave o).pending = s.pending := by
  simp [State.endSave]

@[simp] theorem State.restore_readers (x : Image) : (s.restore x).readers = s.readers := rfl
@[simp] theorem State.restore_heldOrder (x : Image) : (s.restore x).heldOrder = s.heldOrder := rfl
@[simp] theorem State.restore_queue (x : Image) : (s.restore x).queue = s.queue := rfl
@[simp] theorem State.restore_drain (x : Image) : (s.restore x).drain = s.drain := rfl
@[simp] theorem State.restore_alerts (x : Image) : (s.restore x).alerts = s.alerts := rfl
@[simp] theorem State.restore_serials (x : Image) : (s.restore x).serials = s.serials := rfl
@[simp] theorem State.restore_mp0 (x : Image) : (s.restore x).mp0 = s.mp0 := rfl
@[simp] theorem State.restore_mp1 (x : Image) : (s.restore x).mp1 = s.mp1 := rfl
@[simp] theorem State.restore_holds (x : Image) : (s.restore x).holds = s.holds := rfl
@[simp] theorem State.restore_level (x : Image) : (s.restore x).level = s.level := rfl
@[simp] theorem State.restore_store (x : Image) : (s.restore x).store = s.store := rfl
@[simp] theorem State.restore_memory (x : Image) : (s.restore x).memory = s.memory := rfl
@[simp] theorem State.restore_freeCount (x : Image) : (s.restore x).freeCount = s.freeCount := rfl
@[simp] theorem State.restore_pending (x : Image) : (s.restore x).pending = s.pending := rfl

@[simp] theorem State.expireLease_readers (h : Hold) : (s.expireLease h).readers = s.readers := by
  unfold State.expireLease; simp
@[simp] theorem State.expireLease_heldOrder (h : Hold) : (s.expireLease h).heldOrder = s.heldOrder := by
  unfold State.expireLease; simp
@[simp] theorem State.expireLease_queue (h : Hold) : (s.expireLease h).queue = s.queue := by
  unfold State.expireLease; simp
@[simp] theorem State.expireLease_drain (h : Hold) : (s.expireLease h).drain = s.drain := by
  unfold State.expireLease; simp
@[simp] theorem State.expireLease_labMap (h : Hold) : (s.expireLease h).labMap = s.labMap := by
  unfold State.expireLease; simp
@[simp] theorem State.expireLease_lines (h : Hold) : (s.expireLease h).lines = s.lines := by
  unfold State.expireLease; simp
@[simp] theorem State.expireLease_aims (h : Hold) : (s.expireLease h).aims = s.aims := by
  unfold State.expireLease; simp
@[simp] theorem State.expireLease_lots (h : Hold) : (s.expireLease h).lots = s.lots := by
  unfold State.expireLease; simp
@[simp] theorem State.expireLease_day (h : Hold) : (s.expireLease h).day = s.day := by
  unfold State.expireLease; simp
@[simp] theorem State.expireLease_alerts (h : Hold) : (s.expireLease h).alerts = s.alerts := by
  unfold State.expireLease; simp
@[simp] theorem State.expireLease_serials (h : Hold) : (s.expireLease h).serials = s.serials := by
  unfold State.expireLease; simp
@[simp] theorem State.expireLease_level (h : Hold) : (s.expireLease h).level = s.level := by
  unfold State.expireLease; simp
@[simp] theorem State.expireLease_store (h : Hold) : (s.expireLease h).store = s.store := by
  unfold State.expireLease; simp
@[simp] theorem State.expireLease_memory (h : Hold) : (s.expireLease h).memory = s.memory := by
  unfold State.expireLease; simp
@[simp] theorem State.expireLease_freeCount (h : Hold) : (s.expireLease h).freeCount = s.freeCount := by
  unfold State.expireLease; simp
@[simp] theorem State.expireLease_pending (h : Hold) : (s.expireLease h).pending = s.pending := by
  unfold State.expireLease; simp

@[simp] theorem State.countTransfer_readers (b : Bool) : (s.countTransfer b).readers = s.readers := rfl
@[simp] theorem State.countTransfer_heldOrder (b : Bool) : (s.countTransfer b).heldOrder = s.heldOrder := rfl
@[simp] theorem State.countTransfer_queue (b : Bool) : (s.countTransfer b).queue = s.queue := rfl
@[simp] theorem State.countTransfer_drain (b : Bool) : (s.countTransfer b).drain = s.drain := rfl
@[simp] theorem State.countTransfer_labMap (b : Bool) : (s.countTransfer b).labMap = s.labMap := rfl
@[simp] theorem State.countTransfer_lines (b : Bool) : (s.countTransfer b).lines = s.lines := rfl
@[simp] theorem State.countTransfer_aims (b : Bool) : (s.countTransfer b).aims = s.aims := rfl
@[simp] theorem State.countTransfer_lots (b : Bool) : (s.countTransfer b).lots = s.lots := rfl
@[simp] theorem State.countTransfer_alerts (b : Bool) : (s.countTransfer b).alerts = s.alerts := rfl
@[simp] theorem State.countTransfer_serials (b : Bool) : (s.countTransfer b).serials = s.serials := rfl
@[simp] theorem State.countTransfer_mp0 (b : Bool) : (s.countTransfer b).mp0 = s.mp0 := rfl
@[simp] theorem State.countTransfer_mp1 (b : Bool) : (s.countTransfer b).mp1 = s.mp1 := rfl
@[simp] theorem State.countTransfer_holds (b : Bool) : (s.countTransfer b).holds = s.holds := rfl
@[simp] theorem State.countTransfer_level (b : Bool) : (s.countTransfer b).level = s.level := rfl
@[simp] theorem State.countTransfer_store (b : Bool) : (s.countTransfer b).store = s.store := rfl
@[simp] theorem State.countTransfer_memory (b : Bool) : (s.countTransfer b).memory = s.memory := rfl
@[simp] theorem State.countTransfer_freeCount (b : Bool) : (s.countTransfer b).freeCount = s.freeCount := rfl
@[simp] theorem State.countTransfer_pending (b : Bool) : (s.countTransfer b).pending = s.pending := rfl

@[simp] theorem State.beginTransfer_readers : (s.beginTransfer).readers = s.readers := by
  unfold State.beginTransfer; split <;> rfl
@[simp] theorem State.beginTransfer_heldOrder : (s.beginTransfer).heldOrder = s.heldOrder := by
  unfold State.beginTransfer; split <;> rfl
@[simp] theorem State.beginTransfer_queue : (s.beginTransfer).queue = s.queue := by
  unfold State.beginTransfer; split <;> rfl
@[simp] theorem State.beginTransfer_drain : (s.beginTransfer).drain = s.drain := by
  unfold State.beginTransfer; split <;> rfl
@[simp] theorem State.beginTransfer_labMap : (s.beginTransfer).labMap = s.labMap := by
  unfold State.beginTransfer; split <;> rfl
@[simp] theorem State.beginTransfer_lines : (s.beginTransfer).lines = s.lines := by
  unfold State.beginTransfer; split <;> rfl
@[simp] theorem State.beginTransfer_aims : (s.beginTransfer).aims = s.aims := by
  unfold State.beginTransfer; split <;> rfl
@[simp] theorem State.beginTransfer_lots : (s.beginTransfer).lots = s.lots := by
  unfold State.beginTransfer; split <;> rfl
@[simp] theorem State.beginTransfer_alerts : (s.beginTransfer).alerts = s.alerts := by
  unfold State.beginTransfer; split <;> rfl
@[simp] theorem State.beginTransfer_serials : (s.beginTransfer).serials = s.serials := by
  unfold State.beginTransfer; split <;> rfl
@[simp] theorem State.beginTransfer_mp0 : (s.beginTransfer).mp0 = s.mp0 := by
  unfold State.beginTransfer; split <;> rfl
@[simp] theorem State.beginTransfer_mp1 : (s.beginTransfer).mp1 = s.mp1 := by
  unfold State.beginTransfer; split <;> rfl
@[simp] theorem State.beginTransfer_holds : (s.beginTransfer).holds = s.holds := by
  unfold State.beginTransfer; split <;> rfl
@[simp] theorem State.beginTransfer_level : (s.beginTransfer).level = s.level := by
  unfold State.beginTransfer; split <;> rfl
@[simp] theorem State.beginTransfer_store : (s.beginTransfer).store = s.store := by
  unfold State.beginTransfer; split <;> rfl
@[simp] theorem State.beginTransfer_memory : (s.beginTransfer).memory = s.memory := by
  unfold State.beginTransfer; split <;> rfl
@[simp] theorem State.beginTransfer_freeCount : (s.beginTransfer).freeCount = s.freeCount := by
  unfold State.beginTransfer; split <;> rfl
@[simp] theorem State.beginTransfer_pending : (s.beginTransfer).pending = s.pending := by
  unfold State.beginTransfer; split <;> rfl

@[simp] theorem State.summarise_readers : (s.summarise).readers = s.readers := rfl
@[simp] theorem State.summarise_heldOrder : (s.summarise).heldOrder = s.heldOrder := rfl
@[simp] theorem State.summarise_queue : (s.summarise).queue = s.queue := rfl
@[simp] theorem State.summarise_drain : (s.summarise).drain = s.drain := rfl
@[simp] theorem State.summarise_labMap : (s.summarise).labMap = s.labMap := rfl
@[simp] theorem State.summarise_lines : (s.summarise).lines = s.lines := rfl
@[simp] theorem State.summarise_aims : (s.summarise).aims = s.aims := rfl
@[simp] theorem State.summarise_lots : (s.summarise).lots = s.lots := rfl
@[simp] theorem State.summarise_alerts : (s.summarise).alerts = s.alerts := rfl
@[simp] theorem State.summarise_serials : (s.summarise).serials = s.serials := rfl
@[simp] theorem State.summarise_holds : (s.summarise).holds = s.holds := rfl
@[simp] theorem State.summarise_level : (s.summarise).level = s.level := rfl
@[simp] theorem State.summarise_store : (s.summarise).store = s.store := rfl
@[simp] theorem State.summarise_memory : (s.summarise).memory = s.memory := rfl
@[simp] theorem State.summarise_freeCount : (s.summarise).freeCount = s.freeCount := rfl
@[simp] theorem State.summarise_pending : (s.summarise).pending = s.pending := rfl

@[simp] theorem State.enrol_readers (n : Fin 96) (lab : Nat) (k : ProcessKind) (a : Fin 16) : (s.enrol n lab k a).readers = s.readers := rfl
@[simp] theorem State.enrol_heldOrder (n : Fin 96) (lab : Nat) (k : ProcessKind) (a : Fin 16) : (s.enrol n lab k a).heldOrder = s.heldOrder := rfl
@[simp] theorem State.enrol_queue (n : Fin 96) (lab : Nat) (k : ProcessKind) (a : Fin 16) : (s.enrol n lab k a).queue = s.queue := rfl
@[simp] theorem State.enrol_drain (n : Fin 96) (lab : Nat) (k : ProcessKind) (a : Fin 16) : (s.enrol n lab k a).drain = s.drain := rfl
@[simp] theorem State.enrol_aims (n : Fin 96) (lab : Nat) (k : ProcessKind) (a : Fin 16) : (s.enrol n lab k a).aims = s.aims := rfl
@[simp] theorem State.enrol_lots (n : Fin 96) (lab : Nat) (k : ProcessKind) (a : Fin 16) : (s.enrol n lab k a).lots = s.lots := rfl
@[simp] theorem State.enrol_day (n : Fin 96) (lab : Nat) (k : ProcessKind) (a : Fin 16) : (s.enrol n lab k a).day = s.day := rfl
@[simp] theorem State.enrol_alerts (n : Fin 96) (lab : Nat) (k : ProcessKind) (a : Fin 16) : (s.enrol n lab k a).alerts = s.alerts := rfl
@[simp] theorem State.enrol_serials (n : Fin 96) (lab : Nat) (k : ProcessKind) (a : Fin 16) : (s.enrol n lab k a).serials = s.serials := rfl
@[simp] theorem State.enrol_mp0 (n : Fin 96) (lab : Nat) (k : ProcessKind) (a : Fin 16) : (s.enrol n lab k a).mp0 = s.mp0 := rfl
@[simp] theorem State.enrol_mp1 (n : Fin 96) (lab : Nat) (k : ProcessKind) (a : Fin 16) : (s.enrol n lab k a).mp1 = s.mp1 := rfl
@[simp] theorem State.enrol_holds (n : Fin 96) (lab : Nat) (k : ProcessKind) (a : Fin 16) : (s.enrol n lab k a).holds = s.holds := rfl
@[simp] theorem State.enrol_level (n : Fin 96) (lab : Nat) (k : ProcessKind) (a : Fin 16) : (s.enrol n lab k a).level = s.level := rfl
@[simp] theorem State.enrol_store (n : Fin 96) (lab : Nat) (k : ProcessKind) (a : Fin 16) : (s.enrol n lab k a).store = s.store := rfl
@[simp] theorem State.enrol_memory (n : Fin 96) (lab : Nat) (k : ProcessKind) (a : Fin 16) : (s.enrol n lab k a).memory = s.memory := rfl
@[simp] theorem State.enrol_freeCount (n : Fin 96) (lab : Nat) (k : ProcessKind) (a : Fin 16) : (s.enrol n lab k a).freeCount = s.freeCount := rfl
@[simp] theorem State.enrol_pending (n : Fin 96) (lab : Nat) (k : ProcessKind) (a : Fin 16) : (s.enrol n lab k a).pending = s.pending := rfl

@[simp] theorem State.resetWhole_pending (r : BitVec 4) (t : BitVec 3) (l : Nat) : (s.resetWhole r t l).pending = s.pending := rfl

/-- The grant of a freed place touches the reader lines, the held order, the queue and the READER flags alone. -/
theorem grantTo_frame (rls : List (Fin 4)) (s : State) :
    (grantTo rls s).drain = s.drain ∧ (grantTo rls s).labMap = s.labMap ∧ (grantTo rls s).lines = s.lines ∧
    (grantTo rls s).aims = s.aims ∧ (grantTo rls s).lots = s.lots ∧ (grantTo rls s).day = s.day ∧
    (grantTo rls s).alerts = s.alerts ∧ (grantTo rls s).serials = s.serials ∧ (grantTo rls s).holds = s.holds ∧
    (grantTo rls s).level = s.level ∧ (grantTo rls s).store = s.store ∧ (grantTo rls s).memory = s.memory ∧
    (grantTo rls s).freeCount = s.freeCount ∧ (grantTo rls s).pending = s.pending := by
  induction rls generalizing s with
  | nil => exact ⟨rfl, rfl, rfl, rfl, rfl, rfl, rfl, rfl, rfl, rfl, rfl, rfl, rfl, rfl⟩
  | cons rl rest ih =>
    unfold grantTo
    split
    · split
      · exact ⟨rfl, rfl, rfl, rfl, rfl, rfl, rfl, rfl, rfl, rfl, rfl, rfl, rfl, rfl⟩
      · have h := ih (s.nakFrame rl .uncalibrated (some ‹Strip›.lab)); simpa using h
    · exact ih s
    · exact ih s

/-- The grant writes the held order anew, whatever order stood there (R30). -/
theorem grantTo_heldOrder (rls : List (Fin 4)) (s : State) (o : List (Fin 4)) :
    grantTo rls { s with heldOrder := o } = grantTo rls s := by
  induction rls generalizing s with
  | nil => rfl
  | cons rl rest ih =>
    unfold grantTo
    split
    · rename_i st h
      have h' : (s.reader rl).phase = .held st := h
      rw [h']
      simp only
      split
      · rename_i hv
        have hv' : (s.reader rl).cal.inForce = true := hv
        rw [if_pos hv']; rfl
      · rename_i hv
        have hv' : ¬ (s.reader rl).cal.inForce = true := hv
        rw [if_neg hv']
        exact ih (s.nakFrame rl .uncalibrated (some st.lab))
    · rename_i h
      have h' : (s.reader rl).phase = .hunt := h
      rw [h']; exact ih s
    · rename_i bs h
      have h' : (s.reader rl).phase = .receiving bs := h
      rw [h']; exact ih s

/-- The re-check reads the lines and the lots alone (R48). -/
theorem recheck_congr {s t : State} (st : Strip) (h1 : t.lines = s.lines) (h2 : t.lots = s.lots) :
    recheck t st = recheck s st := by
  simp only [recheck, State.line, State.lot, h1, h2]

/-- A freed place is filled by at most one record, stamped with the current day (R29, R30). -/
theorem grantTo_queue (rls : List (Fin 4)) (s : State) :
    (grantTo rls s).queue = s.queue ∨ ∃ st, (grantTo rls s).queue = s.queue ++ [⟨st, s.day.number⟩] := by
  induction rls generalizing s with
  | nil => exact .inl rfl
  | cons rl rest ih =>
    unfold grantTo
    split
    · split
      · exact .inr ⟨_, rfl⟩
      · have h := ih (s.nakFrame rl .uncalibrated (some ‹Strip›.lab)); simpa using h
    · exact ih s
    · exact ih s

end Sys2Proof.Machine
end

