-- ==== Sys2Proof/Laws/Judgement.lean ====
section
/-! SUPPORT. The search of the density conversion (R9), the judgement of a frame, and the chart ring's point of a day. -/
namespace Sys2Proof.Machine

/-! ### The density search -/

/-- A quotient that rounds up to `b` rounds up to every smaller number from 1. -/
theorem roundsTo_mono {o n a b : Nat} (ha : 1 ≤ a) (hab : a ≤ b) (hb : roundsTo o n b = true) : roundsTo o n a = true := by
  simp only [roundsTo, decide_eq_true_eq] at *
  exact le_trans (Nat.mul_le_mul_right _ (Nat.pow_le_pow_right (by norm_num) (by omega))) hb

/-- Halving ends at the last number of the window that the quotient rounds up to. -/
theorem bisect_spec (o n : Nat) (fuel lo hi : Nat) (h : lo < hi) (hf : hi - lo ≤ 2 ^ fuel)
    (hlo : lo = 0 ∨ roundsTo o n lo = true) (hhi : roundsTo o n hi = false) :
    (bisect o n fuel lo hi = 0 ∨ roundsTo o n (bisect o n fuel lo hi) = true) ∧
    roundsTo o n (bisect o n fuel lo hi + 1) = false := by
  induction fuel generalizing lo hi with
  | zero =>
    have : hi = lo + 1 := by simp at hf; omega
    simp only [bisect]; exact ⟨hlo, this ▸ hhi⟩
  | succ k ih =>
    simp only [bisect]
    split
    · have : hi = lo + 1 := by omega
      exact ⟨hlo, this ▸ hhi⟩
    · have h2 : 2 ^ (k + 1) = 2 * 2 ^ k := by ring
      split
      · exact ih _ _ (by omega) (by omega) (Or.inr (by assumption)) hhi
      · exact ih _ _ (by omega) (by omega) hlo (by simp_all)

/-! ### Frames -/

/-- The checks on a frame read the store's state, the lab map, the lines, the lots and the line's calibration alone. -/
theorem judgeFrame_congr {s t : State} {rl : Fin 4} {bs : List Byte} (h1 : t.store = s.store) (h2 : t.labMap = s.labMap)
    (h3 : t.lines = s.lines) (h4 : t.lots = s.lots) (h5 : (t.reader rl).cal = (s.reader rl).cal) :
    judgeFrame t rl bs = judgeFrame s rl bs := by
  simp only [judgeFrame, judgeStrip, stripCheck, lineCheck, lotCheck, State.findLine, State.findLot, State.lot,
    State.line, judgeCal, h1, h2, h3, h4, h5]

/-- The newest character of a FIFO is the one that gains OVERRUN-AFTER (R19). -/
theorem markNewest_append (l : List FifoChar) (c : FifoChar) :
    markNewest (l ++ [c]) = l ++ [{ c with tags := { c.tags with overrunAfter := true } }] := by
  induction l with
  | nil => rfl
  | cons d l ih =>
    cases l with
    | nil => simp [markNewest]
    | cons e l => simp only [List.cons_append] at ih ⊢; simp [markNewest, ih]

/-! ### The ring -/

/-- A day with no point. -/
theorem ringAt_none {ring : List Point} {d : Nat} (h : ∀ q ∈ ring, q.day ≠ d) : ringAt ring d = none := by
  simp [ringAt]; exact h

/-- The one point of a day is found. -/
theorem ringAt_mid {before after : List Point} {pt : Point} (h : ∀ q ∈ before, q.day ≠ pt.day) :
    ringAt (before ++ pt :: after) pt.day = some pt := by
  have : List.find? (fun q : Point => q.day == pt.day) before = none := by simpa using h
  simp [ringAt, List.find?_append, this]

/-- The one point of a day is replaced. -/
theorem ringReplace_mid {before after : List Point} {pt q : Point} (hd : q.day = pt.day)
    (h : ∀ x ∈ before ++ after, x.day ≠ pt.day) : ringReplace (before ++ pt :: after) q = before ++ q :: after := by
  have h1 : ∀ x ∈ before, ¬ x.day = pt.day := fun x hx => h x (by simp [hx])
  have h2 : ∀ x ∈ after, ¬ x.day = pt.day := fun x hx => h x (by simp [hx])
  simp only [ringReplace, List.map_append, List.map_cons, hd]
  congr 1
  · conv_rhs => rw [← List.map_id before]
    apply List.map_congr_left; intro x hx; simp [h1 x hx]
  · simp
    conv_rhs => rw [← List.map_id after]
    apply List.map_congr_left; intro x hx; simp [h2 x hx]

end Sys2Proof.Machine
end

