-- ==== Sys2Proof/Laws/Memory.lean ====
section
/-! SUPPORT. The serial memory: a write changes one byte and keeps the canonical form. -/
namespace Sys2Proof.Machine

theorem Memory.wf_tail {c : Host.Cell} {m : Memory} (h : Memory.wf (c :: m)) : Memory.wf m :=
  ⟨(List.pairwise_cons.mp h.1).2, fun d hd => h.2 d (List.mem_cons_of_mem c hd)⟩

/-- An address below the first cell reads as blank. -/
theorem Memory.read_below {m : Memory} {a : Nat} (h : ∀ c ∈ m, a < c.1) : Memory.read m a = Config.blankByte := by
  induction m with
  | nil => rfl
  | cons c m ih =>
    have hc := h c (List.mem_cons_self ..)
    have : a ≠ c.1 := by omega
    simp only [Memory.read, if_neg this]
    exact ih fun d hd => h d (List.mem_cons_of_mem c hd)

/-- The addresses a write leaves are among the old ones and the written one. -/
theorem Memory.mem_write {m : Memory} {a : Nat} {b : Byte} {c : Host.Cell} (h : c ∈ Memory.write m a b) :
    c ∈ m ∨ c = (a, b) ∧ b ≠ Config.blankByte := by
  induction m with
  | nil =>
    by_cases hb : b = Config.blankByte <;> simp [Memory.write, hb] at h ⊢
    exact h
  | cons d m ih =>
    obtain ⟨x, y⟩ := d
    simp only [Memory.write] at h
    split at h
    · split at h
      · exact .inl h
      · rename_i hb
        rcases List.mem_cons.mp h with e | h
        · exact .inr ⟨e, hb⟩
        · exact .inl h
    · split at h
      · split at h
        · exact .inl (List.mem_cons_of_mem _ h)
        · rename_i hb
          rcases List.mem_cons.mp h with e | h
          · exact .inr ⟨e, hb⟩
          · exact .inl (List.mem_cons_of_mem _ h)
      · rcases List.mem_cons.mp h with e | h
        · exact .inl (by rw [e]; exact List.mem_cons_self ..)
        · rcases ih h with h | h
          · exact .inl (List.mem_cons_of_mem _ h)
          · exact .inr h

theorem Memory.wf_write {m : Memory} {a : Nat} (b : Byte) (h : Memory.wf m) (ha : a < memorySize) :
    Memory.wf (Memory.write m a b) := by
  refine ⟨?_, ?_⟩
  · induction m with
    | nil => by_cases hb : b = Config.blankByte <;> simp [Memory.write, hb]
    | cons d m ih =>
      obtain ⟨x, y⟩ := d
      have hp := List.pairwise_cons.mp h.1
      simp only [Memory.write]
      split
      · rename_i hx
        split
        · exact h.1
        · refine List.pairwise_cons.mpr ⟨?_, h.1⟩
          intro c hc
          rcases List.mem_cons.mp hc with e | hc
          · rw [e]; exact hx
          · have := hp.1 c hc; simp only at this ⊢; omega
      · rename_i hx
        split
        · rename_i e
          split
          · exact hp.2
          · refine List.pairwise_cons.mpr ⟨?_, hp.2⟩
            intro c hc
            have := hp.1 c hc; simp only at this ⊢; omega
        · rename_i hne
          refine List.pairwise_cons.mpr ⟨?_, ih (Memory.wf_tail h)⟩
          intro c hc
          rcases Memory.mem_write hc with hc | ⟨e, _⟩
          · exact hp.1 c hc
          · rw [e]; simp only; omega
  · intro c hc
    rcases Memory.mem_write hc with hc | ⟨e, hb⟩
    · exact h.2 c hc
    · rw [e]; exact ⟨ha, hb⟩

theorem Memory.wf_writeBytes {m : Memory} {a : Nat} {bs : List Byte} (h : Memory.wf m)
    (ha : a + bs.length ≤ memorySize) : Memory.wf (Memory.writeBytes m a bs) := by
  induction bs generalizing m a with
  | nil => exact h
  | cons b bs ih =>
    simp only [List.length_cons] at ha
    exact ih (Memory.wf_write b h (by omega)) (by omega)

/-- A byte reads as written, and every other byte as before. -/
theorem Memory.read_write {m : Memory} {a b' : Nat} {b : Byte} (h : Memory.wf m) :
    Memory.read (Memory.write m a b) b' = if b' = a then b else Memory.read m b' := by
  induction m with
  | nil =>
    by_cases hb : b = Config.blankByte <;> by_cases e : b' = a <;> simp [Memory.write, Memory.read, hb, e]
  | cons d m ih =>
    obtain ⟨x, y⟩ := d
    have hp := List.pairwise_cons.mp h.1
    have hbelow : ∀ z, z < x → Memory.read m z = Config.blankByte := fun z hz =>
      Memory.read_below fun c hc => by have := hp.1 c hc; simp only at this; omega
    have hx : Memory.read m x = Config.blankByte := Memory.read_below fun c hc => hp.1 c hc
    simp only [Memory.write]
    split
    · rename_i hlt
      split
      · rename_i hb
        by_cases e : b' = a
        · subst e
          have : b' ≠ x := by omega
          simp [Memory.read, this, hbelow b' hlt, hb]
        · simp [e]
      · by_cases e : b' = a <;> simp [Memory.read, e]
    · split
      · rename_i e
        subst e
        split
        · rename_i hb
          by_cases e : b' = a
          · subst e; simp [hx, hb]
          · simp [Memory.read, e]
        · by_cases e : b' = a <;> simp [Memory.read, e]
      · rename_i hne
        by_cases e : b' = x
        · subst e
          have : b' ≠ a := fun e => hne e.symm
          simp [Memory.read, this]
        · simp only [Memory.read, if_neg e]; exact ih (Memory.wf_tail h)

/-- The bytes written read back, and every other byte reads as before. -/
theorem Memory.read_writeBytes {m : Memory} {a b' : Nat} {bs : List Byte} (h : Memory.wf m)
    (ha : a + bs.length ≤ memorySize) :
    Memory.read (Memory.writeBytes m a bs) b' =
      if a ≤ b' ∧ b' < a + bs.length then bs.getD (b' - a) 0 else Memory.read m b' := by
  induction bs generalizing m a with
  | nil => rw [if_neg (by simp)]; rfl
  | cons b bs ih =>
    have hl : (b :: bs).length = bs.length + 1 := rfl
    rw [hl] at ha ⊢
    simp only [Memory.writeBytes]
    rw [ih (Memory.wf_write b h (by omega)) (by omega), Memory.read_write h]
    by_cases h1 : b' = a
    · subst h1
      rw [if_neg (by omega), if_pos rfl, if_pos (by omega)]; simp
    · by_cases h2 : a + 1 ≤ b' ∧ b' < a + 1 + bs.length
      · rw [if_pos h2, if_pos (by omega)]
        obtain ⟨k, hk⟩ : ∃ k, b' - a = k + 1 := ⟨b' - a - 1, by omega⟩
        rw [hk, show b' - (a + 1) = k by omega]; rfl
      · rw [if_neg h2, if_neg h1, if_neg (by omega)]

/-- A page write stays inside the memory. -/
theorem pageWrite_inside (body : List Byte) (writes : Nat) :
    (pageWrite body writes).1 + (pageWrite body writes).2.length ≤ memorySize := by
  have hh : ∀ k, (header k body).length = 16 := fun k => by
    simp [header, bytes16, checkBytes]
  unfold pageWrite
  split
  · simp only [List.length_append, hh, List.length_take, memorySize]; omega
  · split
    · rename_i h
      simp only [saveWrites] at h
      simp only [List.length_take, memorySize]; omega
    · simp only [List.length_append, hh, List.length_take, memorySize]; omega

theorem writePage_wf {m : Memory} (body : List Byte) (writes : Nat) (h : Memory.wf m) :
    Memory.wf (writePage m body writes) := Memory.wf_writeBytes h (pageWrite_inside body writes)

/-- A reset keeps the canonical form, whatever page was in flight. -/
theorem State.memoryAfterCut_wf {s : State} (h : Memory.wf s.memory) : Memory.wf s.memoryAfterCut := by
  unfold State.memoryAfterCut
  split
  · exact h
  · exact h
  · split
    · exact writePage_wf _ _ h
    · exact h
  · exact h

end Sys2Proof.Machine
end

