-- ==== Sys2Proof/Laws/Operands.lean ====
section
/-! SUPPORT. Reading back the bytes that a quantity is laid out in (12, opening; R182). -/
namespace Sys2Proof.Machine

theorem byte_toNat {n : Nat} (h : n < 256) : (byte n).toNat = n := by
  simp [byte, BitVec.toNat_ofNat]; omega

theorem nat16_bytes {n : Nat} (h : n < 65536) : nat16 (byte (n / 256)) (byte n) = n := by
  simp [nat16, byte, BitVec.toNat_ofNat]; omega

theorem nat32_bytes {n : Nat} (h : n < 4294967296) :
    nat32 (byte (n / 16777216)) (byte (n / 65536)) (byte (n / 256)) (byte n) = n := by
  simp [nat32, byte, BitVec.toNat_ofNat]; omega

theorem indexOf_byte {k : Nat} (hk : k ≤ 256) (n : Fin k) : indexOf k (byte n.val) = some n := by
  have : (byte n.val).toNat = n.val := byte_toNat (by have := n.isLt; omega)
  simp [indexOf, this]

theorem int16_signed16 {i : Int} (h : -32768 ≤ i) (h' : i ≤ 32767) :
    int16 (byte ((BitVec.ofInt 16 i).toNat / 256)) (byte (BitVec.ofInt 16 i).toNat) = i := by
  unfold int16
  rw [nat16_bytes (BitVec.isLt _)]
  rw [BitVec.ofNat_toNat, BitVec.setWidth_eq, BitVec.toInt_ofInt]
  simp only [Int.bmod_def]; norm_num; omega

@[simp] theorem kindOf_code (k : ProcessKind) : kindOf k.code = some k := by cases k <;> rfl

@[simp] theorem flagOf_flagByte (b : Bool) : flagOf (flagByte b) = some b := by cases b <;> rfl

@[simp] theorem rateOf_code (r : Rate) : rateOf r.code = some r := by cases r <;> rfl

@[simp] theorem dayModeOf_code (m : DayMode) : dayModeOf m.code = some m := by cases m <;> rfl

theorem itemOf_bytes (i : Item) : ∃ k x, itemBytes i = [k, x] ∧ itemOf k x = some i := by
  cases i with
  | line n => exact ⟨_, _, rfl, by simp [itemOf, indexOf_byte]⟩
  | aim n => exact ⟨_, _, rfl, by simp [itemOf, indexOf_byte]⟩
  | lot n => exact ⟨_, _, rfl, by simp [itemOf, indexOf_byte]⟩
  | desk => exact ⟨_, _, rfl, by simp [itemOf]⟩

/-- A command that names one number below `k` reads it back. -/
theorem parseIndex_byte {k : Nat} (hk : k ≤ 256) (n : Fin k) : parseIndex k [byte n.val] = .ok n := by
  simp [parseIndex, indexOf_byte hk, need]

/-- A number at or above `k` is refused BAD-PARAM. -/
theorem parseIndex_outside {k : Nat} {a : Byte} (h : k ≤ a.toNat) : parseIndex k [a] = .error .badParam := by
  have : ¬ a.toNat < k := by omega
  simp [parseIndex, indexOf, this, need]

/-- The desk settings in their ranges are read back from their nine bytes. -/
theorem deskOf_bytes {d : Desk} (h : d.inRange = true) : deskOf d.bytes = some d := by
  obtain ⟨l, w, m, q, c, t, o, x⟩ := d
  simp only [Desk.inRange, Bool.and_eq_true, decide_eq_true_eq, List.contains_eq_mem, List.mem_cons,
    List.not_mem_nil, or_false] at h
  obtain ⟨⟨⟨⟨⟨⟨⟨⟨⟨⟨⟨h1, h2⟩, h3⟩, h4⟩, h5⟩, h6⟩, h7⟩, h8⟩, h9⟩, h10⟩, h11⟩, h12⟩ := h
  simp only [Desk.bytes, bytes16, List.cons_append, List.nil_append, deskOf, dayModeOf_code, Option.map_some,
    Option.some.injEq, Desk.mk.injEq, true_and]
  refine ⟨nat16_bytes (by omega), byte_toNat (by omega), byte_toNat (by omega), byte_toNat (by omega),
    byte_toNat (by omega), byte_toNat (by omega), byte_toNat (by omega)⟩

end Sys2Proof.Machine
end

