-- ==== Sys2Proof/Laws/Records.lean ====
section
/-! SUPPORT. The lengths of the pieces that records and image entries are laid out in (R183, R184). -/
namespace Sys2Proof.Machine

@[simp] theorem bytes16_length (n : Nat) : (bytes16 n).length = 2 := rfl

@[simp] theorem bytes32_length (n : Nat) : (bytes32 n).length = 4 := rfl

@[simp] theorem signed16_length (i : Int) : (signed16 i).length = 2 := rfl

@[simp] theorem checkBytes_length (bs : List Byte) : (checkBytes bs).length = 2 := rfl

/-- A list of items of one width. -/
theorem flatMap_length {α : Type} (f : α → List Byte) (w : Nat) (h : ∀ a, (f a).length = w) (l : List α) :
    (l.flatMap f).length = w * l.length := by
  induction l with
  | nil => simp
  | cons a l ih => simp only [List.flatMap_cons, List.length_append, h, ih, List.length_cons]; ring

/-- A table of items of one width. -/
theorem eachOf_length {α : Type} {n : Nat} (f : α → List Byte) (w : Nat) (h : ∀ a, (f a).length = w) (t : Table α n) :
    (eachOf f t).length = w * n := by
  rw [eachOf, flatMap_length f w h, t.size]

/-- An optional field, whose bytes have its width where they are there. -/
theorem optField_length (w : Nat) (o : Option (List Byte)) (h : ∀ b, o = some b → b.length = w) :
    (optField w o).length = w + 1 := by
  cases o with
  | none => simp [optField]
  | some b => simp [optField, h b rfl]

@[simp] theorem deskBytes_length (d : Desk) : d.bytes.length = 9 := rfl

@[simp] theorem partBytes_length (q : AimPart) : q.bytes.length = 123 := by
  unfold AimPart.bytes
  rw [List.length_append, eachOf_length ValueAim.bytes 10 fun _ => rfl]; rfl

end Sys2Proof.Machine
end

