-- ==== Sys2Proof/Tests/Slice0.lean ====
section
/-! SUPPORT. Tests of the model's own work: ill-formed commands, worked values of the manual, one step of some events, and
for every obligation with hypotheses a state that meets them, clause by clause. -/
namespace Sys2Proof.Tests
open Sys2Proof Sys2Proof.Machine

/-! ### Ill-formed commands -/

theorem test_emptyCommandSelection_refused : Instr.wellFormed (.commandSelection .mp0 []) = false := by decide

theorem test_collectByteFirst_refused : Instr.wellFormed (.commandSelection .mp1 [0xCC, 1]) = false := by decide

theorem test_emptyCollectSelection_refused : Instr.wellFormed (.collectSelection .mp0 0) = false := by decide

theorem test_selections_accepted :
    Instr.wellFormed (.commandSelection .mp0 [0x41]) = true ∧ Instr.wellFormed (.collectSelection .mp1 1) = true := by
  decide

/-! ### Worked values of the manual -/

/-- The worked conversions of R9 with an open count of 50000. -/
theorem test_workedConversions :
    [60000, 50000, 49990, 39716, 25000].map (convert 50000) =
      [⟨0, .bright⟩, ⟨0, .bright⟩, ⟨0, .unmarked⟩, ⟨100, .unmarked⟩, ⟨301, .unmarked⟩] ∧
    [5000, 2000, 126, 5, 1, 0].map (convert 50000) =
      [⟨1000, .unmarked⟩, ⟨1398, .unmarked⟩, ⟨2599, .unmarked⟩, ⟨4000, .unmarked⟩, ⟨4000, .opaqued⟩, ⟨4000, .opaqued⟩] := by
  decide +kernel

/-- The highest density of a weakly lit head, and the counts below 7 of a fully lit one (chapter 01). -/
theorem test_conversionEnds :
    convert 1024 1 = ⟨3010, .unmarked⟩ ∧ convert 65535 6 = ⟨4000, .opaqued⟩ ∧ convert 65535 7 = ⟨3971, .unmarked⟩ := by
  decide +kernel

/-- The check code of the nine characters "123456789" (R180). -/
theorem test_checkCode : checkCode [0x31, 0x32, 0x33, 0x34, 0x35, 0x36, 0x37, 0x38, 0x39] = 0x29B1 := by decide +kernel

/-- The test frame's eleven characters begin with the start byte, its length 7 and the kind TEST (R181). -/
theorem test_testFrame : testFrame.length = 11 ∧ testFrame.take 3 = [0xA5, 7, 0x2E] ∧
    testOutcome (testFrame.drop 1) = .pass := by decide +kernel

/-- The page writes of a save are 122 of at most 32 bytes (R184). -/
theorem test_pages : saveWrites = 122 ∧ (pageWrite (List.replicate 3856 0) 120).1 = 3840 ∧
    (pageWrite (List.replicate 3856 0) 120).2.length = 32 := by decide +kernel

/-! ### States that meet hypotheses -/

/-- The part after a load that found no answer, HEAD-READY high on every line. -/
def up : State :=
  { State.reset with store := ⟨.idle, .loadFailed .noAnswer, 0, 0⟩, readers := Table.fill 4 (Reader.reset true) }

/-- A command in execution at MP0, which holds the item. -/
def on (s : State) (c : Command) (params : List Byte) (item : Option Item) : State :=
  { s with
    holds := item.toList.map fun i => ⟨i, .mp0, 10⟩
    mp0 := { s.mp0 with executing := some ⟨c.code, params⟩ } }

/-- Its hypotheses of execution hold in an idle store at level 0. -/
theorem on_ok (s : State) (hs : s.store.phase = .idle) (hl : s.level = 0) (c : Command) (params : List Byte)
    (item : Option Item) :
    (on s c params item).executes .mp0 c params ∧ (on s c params item).permits .mp0 c item := by
  refine ⟨rfl, commonRefusal_none.mp ?_⟩
  cases item with
  | none => cases c <;> simp [commonRefusal, on, Store.loading, Store.isSaving, hs, hl, Command.locked, holdRefusal]
  | some i =>
    cases c <;> simp [commonRefusal, on, Store.loading, Store.isSaving, hs, hl, Command.locked, holdRefusal,
      State.holder, State.holdOn]

/-- Reader line 0 in a given condition. -/
def at0 (r : Reader) : State := up.setReader 0 r

/-- A line on the wire with a ready head. -/
def wire : Reader := Reader.reset true

/-- A line in LOOPBACK. -/
def loop : Reader := { wire with loopback := true }

/-- An untagged character. -/
def char (b : Byte) : FifoChar := ⟨b, ⟨false, false, false, false⟩⟩

/-- A strip of lab 1 on line 0 and slot 0, all densities 100. -/
def strip : Strip := ⟨0, 1, .film, 7, 0, 0, Table.fill 12 ⟨100, .unmarked⟩⟩

/-- A line of lab 1. -/
def film (st : LineState) : LineCtx := LineCtx.fresh st 1 .film 0

/-- A lot of code 7. -/
def lot7 (st : LotState) : Lot := { Lot.fresh 7 .film (Table.fill 12 0) with state := st }

/-- A point of a day on lot 7 in slot 0. -/
def point (day : Nat) (st : PointState) : Point :=
  { day := day, state := st, head := 0, code := 7, slot := 0, epoch := 0, settling := false, doubtful := false,
    reruns := 0, readings := Table.fill 12 ⟨100, .unmarked⟩, values := Table.fill 12 0,
    deviations := Table.fill 12 90, verdicts := Table.fill 12 .warnHigh, first := none, cross := none }

/-- The part with line 0 in a state and lot 7 in slot 0. -/
def lab (c : LineCtx) (l : Lot) : State :=
  { (up.setLine 0 (some c)).setLot 0 (some l) with labMap := [⟨c.lab, c.kind, 0⟩] }

/-- The day unit in a day state of day 2, after the close of day 1. -/
def inDay (s : State) (st : DayState) : State :=
  s.setDay { s.day with number := 2, state := st, last := some ⟨1, .port .mp0⟩ }

/-! ### The machine -/

theorem test_StepRunsTheFrontCommand_met :
    (∃ (s : State) (c : Instr) (rest : List Instr), s.pending = c :: rest) ∧ ∃ s : State, s.pending = [] :=
  ⟨⟨{ up with pending := [.summary, .noAnswer] }, .summary, [.noAnswer], rfl⟩, up, rfl⟩

theorem test_ResetOfThePart_met :
    (∃ s : State, s.store.isSaving = false) ∧ (∃ (s : State) (b : List Byte), s.store.phase = .saving b) ∧
    ∃ (s : State) (p : Port), s.executes p .restart [] ∧ s.store.loading = false :=
  ⟨⟨up, rfl⟩, ⟨up.setStore { up.store with phase := .saving [] }, [], rfl⟩, on up .restart [] none, .mp0, rfl, rfl⟩

/-! ### Reader lines -/

theorem test_CharacterReception_met :
    (∃ s : State, (s.reader 0).withheld = none ∧ (s.reader 0).onWire = true ∧ (s.reader 0).headReady = true ∧
      (s.reader 0).breakLatch = false ∧ (s.reader 0).fifo.length = 63) ∧
    (∃ (s : State) (init : List FifoChar) (last : FifoChar), (s.reader 0).withheld = none ∧
      (s.reader 0).onWire = true ∧ (s.reader 0).headReady = true ∧ (s.reader 0).fifo = init ++ [last] ∧
      (s.reader 0).fifo.length = 64) ∧
    (∃ s : State, (s.reader 0).withheld = none ∧ (s.reader 0).headReady = false ∧ (s.reader 0).onWire = true) ∧
    (∃ s : State, (s.reader 0).onWire = false ∧ (s.reader 0).enable = false ∧ (s.reader 0).breakLatch = false) ∧
    (∃ s : State, (s.reader 0).breakLatch = true) ∧
    ∃ (s : State) (w : Withheld), (s.reader 0).withheld = some w ∧ (s.reader 0).onWire = true ∧
      (s.reader 0).headReady = true ∧ (s.reader 0).fifo.length = 63 :=
  ⟨⟨at0 { wire with fifo := List.replicate 63 (char 0) }, by decide⟩,
   ⟨at0 { wire with fifo := List.replicate 63 (char 0) ++ [char 1] }, List.replicate 63 (char 0), char 1, by decide⟩,
   ⟨at0 (Reader.reset false), by decide⟩, ⟨at0 { wire with enable := false }, by decide⟩,
   ⟨at0 { wire with breakLatch := true }, by decide⟩,
   ⟨at0 { wire with withheld := some ⟨1, true⟩, fifo := List.replicate 63 (char 0) }, ⟨1, true⟩, by decide⟩⟩

/-- The cases of a full FIFO, of a break first and of a head that is not ready. -/
theorem test_CharacterReception_edges_met :
    (∃ s : State, (s.reader 0).withheld = none ∧ (s.reader 0).onWire = true ∧ (s.reader 0).breakLatch = true) ∧
    (∃ s : State, (s.reader 0).onWire = true ∧ (s.reader 0).breakLatch = false ∧ (s.reader 0).headReady = true ∧
      (s.reader 0).fifo = List.replicate 63 (char 0) ++ [char 1]) ∧
    (∃ s : State, (s.reader 0).onWire = true ∧ (s.reader 0).breakLatch = false ∧ (s.reader 0).headReady = false ∧
      (s.reader 0).fifo.length = 64) ∧
    (∃ s : State, (s.reader 0).withheld = some ⟨1, true⟩ ∧ (s.reader 0).onWire = true ∧ (s.reader 0).headReady = true ∧
      (s.reader 0).fifo = List.replicate 63 (char 0) ++ [char 1]) ∧
    (∃ s : State, (s.reader 0).withheld = some ⟨1, true⟩ ∧ (s.reader 0).onWire = true ∧ (s.reader 0).headReady = false) ∧
    ∃ s : State, (s.reader 0).inLoop = true :=
  let full := List.replicate 63 (char 0) ++ [char 1]
  ⟨⟨at0 { wire with breakLatch := true }, by decide⟩, ⟨at0 { wire with fifo := full }, by decide⟩,
   ⟨at0 { Reader.reset false with fifo := full }, by decide⟩,
   ⟨at0 { wire with fifo := full, withheld := some ⟨1, true⟩ }, by decide⟩,
   ⟨at0 { Reader.reset false with withheld := some ⟨1, true⟩ }, by decide⟩, ⟨at0 loop, by decide⟩⟩

theorem test_AssemblerConsumption_met :
    (∃ s : State, (s.reader 0).enable = true ∧ (s.reader 0).fifo = [char 0xA5] ∧ (s.reader 0).loopback = false ∧
      (s.reader 0).holdsReply = true) ∧
    (∃ s : State, (s.reader 0).fifo = [char 0xA5] ∧ (s.reader 0).loopback = false ∧ (s.reader 0).holdsReply = false ∧
      (s.reader 0).phase = .hunt ∧ (s.reader 0).headReady = true) ∧
    (∃ s : State, (s.reader 0).fifo = [char 0xA4] ∧ (s.reader 0).loopback = false ∧ (s.reader 0).holdsReply = false ∧
      (s.reader 0).phase = .hunt) ∧
    (∃ s : State, (s.reader 0).fifo = [⟨0, ⟨false, false, true, false⟩⟩] ∧ (s.reader 0).loopback = false ∧
      (s.reader 0).holdsReply = false ∧ (s.reader 0).phase = .receiving []) ∧
    (∃ s : State, (s.reader 0).fifo = [char 7] ∧ (s.reader 0).holdsReply = false ∧
      (s.reader 0).phase = .receiving [] ∧ frameComplete ([] ++ [7]) = false) ∧
    (∃ s : State, (s.reader 0).fifo = [char 2] ∧ (s.reader 0).loopback = true ∧
      (s.reader 0).phase = .receiving [0, 1] ∧ (s.reader 0).test = .running ∧ frameComplete ([0, 1] ++ [2]) = true) ∧
    ∃ s : State, (s.reader 0).fifo = [char 2] ∧ (s.reader 0).loopback = false ∧ (s.reader 0).phase = .held strip :=
  ⟨⟨at0 { wire with fifo := [char 0xA5], sending := some ⟨.reply .wait, .r9600⟩ }, by decide⟩,
   ⟨at0 { wire with fifo := [char 0xA5] }, by decide⟩, ⟨at0 { wire with fifo := [char 0xA4] }, by decide⟩,
   ⟨at0 { wire with fifo := [⟨0, ⟨false, false, true, false⟩⟩], phase := .receiving [] }, by decide⟩,
   ⟨at0 { wire with fifo := [char 7], phase := .receiving [] }, by decide⟩,
   ⟨at0 { loop with fifo := [char 2], phase := .receiving [0, 1], test := .running }, by decide⟩,
   ⟨at0 { wire with fifo := [char 2], phase := .held strip }, by decide⟩⟩

/-- The cases of LOOPBACK, and bodies with each outcome. -/
theorem test_AssemblerConsumption_loop_met :
    (∃ s : State, (s.reader 0).enable = true ∧ (s.reader 0).fifo = [char 0xA5] ∧ (s.reader 0).loopback = true ∧
      (s.reader 0).phase = .hunt ∧ (s.reader 0).headReady = false) ∧
    (∃ s : State, (s.reader 0).enable = true ∧ (s.reader 0).fifo = [char 0xA4] ∧ (s.reader 0).loopback = true ∧
      (s.reader 0).phase = .hunt) ∧
    (∃ s : State, (s.reader 0).enable = true ∧ (s.reader 0).fifo = [⟨2, ⟨true, false, false, false⟩⟩] ∧
      (s.reader 0).loopback = true ∧ (s.reader 0).phase = .receiving [0, 1] ∧ (s.reader 0).test = .aborted) ∧
    (∃ s : State, (s.reader 0).inLoop = true ∧ (s.reader 0).phase = .receiving [] ∧ (s.reader 0).fifo = []) ∧
    checkBytes [0] ≠ [0, 0] ∧
    (∀ body : List Byte, ∃ a b, [a, b] = checkBytes (byte body.length :: body)) ∧
    ([0x2F].length = (1 : Byte).toNat ∧ [0x2E].length = (1 : Byte).toNat ∧
      [0x2E, 0, 0, 0, 0, 0, 0].length = (7 : Byte).toNat) :=
  ⟨⟨at0 { Reader.reset false with loopback := true, fifo := [char 0xA5] }, by decide⟩,
   ⟨at0 { loop with fifo := [char 0xA4] }, by decide⟩,
   ⟨at0 { loop with fifo := [⟨2, ⟨true, false, false, false⟩⟩], phase := .receiving [0, 1], test := .aborted },
     by decide⟩,
   ⟨at0 { loop with phase := .receiving [] }, by decide⟩, by decide +kernel, fun _ => ⟨_, _, rfl⟩, by decide⟩

theorem test_FailingFramesAreAnswered_met :
    (∃ s : State, (s.reader 0).onWire = true ∧ (s.reader 0).sending = none ∧ (s.reader 0).waiting = [] ∧
      (s.reader 0).phase = .receiving [] ∧ (s.reader 0).fifo = [⟨7, ⟨true, false, false, false⟩⟩]) ∧
    (∃ s : State, (s.reader 0).onWire = true ∧ (s.reader 0).sending = none ∧ (s.reader 0).waiting = [] ∧
      (s.reader 0).phase = .receiving [0, 1] ∧ (s.reader 0).fifo = [char 2] ∧ frameComplete ([0, 1] ++ [2]) = true ∧
      judgeFrame s 0 ([0, 1] ++ [2]) = .nak .crc none) ∧
    (∃ s : State, (s.reader 0).onWire = true ∧ (s.reader 0).sending = none ∧ (s.reader 0).waiting = [] ∧
      (s.reader 0).phase = .receiving [] ∧ (s.reader 0).fifo = []) ∧
    ∃ s : State, (s.reader 0).onWire = true ∧ (s.reader 0).sending = none ∧ (s.reader 0).waiting = [] ∧
      (s.reader 0).phase = .held strip :=
  ⟨⟨at0 { wire with fifo := [⟨7, ⟨true, false, false, false⟩⟩], phase := .receiving [] }, by decide⟩,
   ⟨at0 { wire with fifo := [char 2], phase := .receiving [0, 1] }, by decide +kernel⟩,
   ⟨at0 { wire with phase := .receiving [] }, by decide⟩, ⟨at0 { wire with phase := .held strip }, by decide⟩⟩

/-- A STRIP frame of lab 1 on lot 7. -/
def frame (code gate : Nat) : StripFrame := ⟨1, 1, code, gate, Table.fill 12 5000⟩

/-- The part with line 0, lot 7 and a calibration on reader line 0. -/
def calibrated (c : LineCtx) (l : Lot) (left : Nat) : State :=
  (lab c l).setReader 0 { wire with cal := .valid (Table.fill 3 50000) 1024 left }

theorem test_StripFrameChecksInOrder_met :
    (kindOf 3 = none ∧ kindOf 1 = some .film) ∧ up.findLine 1 .film = none ∧
    (∃ (s : State) (c : LineCtx), s.findLine 1 .film = some 0 ∧ s.line 0 = some c ∧ c.state = .suspended) ∧
    (∃ (s : State) (c : LineCtx), s.findLine 65534 .film = some 0 ∧ s.line 0 = some c ∧ c.state ≠ .suspended ∧
      s.findLot 8 = none) ∧
    (∃ (s : State) (c : LineCtx) (l : Lot), s.findLine 1 .film = some 0 ∧ s.line 0 = some c ∧ s.findLot 7 = some 0 ∧
      s.lot 0 = some l ∧ l.kind ≠ c.kind) ∧
    (∃ (s : State) (c : LineCtx) (l : Lot), s.findLine 1 .film = some 0 ∧ s.line 0 = some c ∧ s.findLot 7 = some 0 ∧
      s.lot 0 = some l ∧ l.kind = c.kind ∧ l.state = .retired) ∧
    (∃ (s : State) (l : Lot), s.findLine 1 .film = some 0 ∧ s.findLot 7 = some 0 ∧ s.lot 0 = some l ∧
      l.state ≠ .retired ∧ (s.reader 0).cal.inForce = false) ∧
    ∃ (s : State) (l : Lot), s.findLine 1 .film = some 0 ∧ s.findLot 7 = some 0 ∧ s.lot 0 = some l ∧
      l.state ≠ .retired ∧ (s.reader 0).cal = .valid (Table.fill 3 50000) 1024 1 ∧ (frame 7 1024).gate = 1024 ∧
      (frame 7 1025).gate ≠ 1024 :=
  ⟨by decide, by decide +kernel, ⟨lab (film .suspended) (lot7 .current), film .suspended, by decide +kernel⟩,
   ⟨lab { film .active with lab := 65534 } (lot7 .current), { film .active with lab := 65534 }, by decide +kernel⟩,
   ⟨lab (film .active) { lot7 .current with kind := .paper }, film .active, { lot7 .current with kind := .paper },
     by decide +kernel⟩,
   ⟨lab (film .active) (lot7 .retired), film .active, lot7 .retired, by decide +kernel⟩,
   ⟨lab (film .active) (lot7 .current), lot7 .current, by decide +kernel⟩,
   ⟨calibrated (film .active) (lot7 .current) 1, lot7 .current, by decide +kernel⟩⟩

/-- Frames with each result of the first checks, while the store is LOADING and not, and the bounds of a CAL frame. -/
theorem test_StripFrameChecksInOrder_frames_met :
    checkBytes [0] ≠ [0, 0] ∧ (∀ body : List Byte, ∃ a b, [a, b] = checkBytes (byte body.length :: body)) ∧
    ([0x2E].length = (1 : Byte).toNat ∧ [0x21].length = (1 : Byte).toNat ∧ [0x22].length = (1 : Byte).toNat) ∧
    (let f := frame 4294967295 65535
     (0x21 :: (bytes16 f.lab ++ [f.kindCode] ++ bytes32 f.code ++ bytes16 f.gate ++
        f.counts.cells.flatMap bytes16)).length = (34 : Byte).toNat ∧
      f.lab < 65536 ∧ f.code < 4294967296 ∧ f.gate < 65536 ∧ ∀ i, f.counts.get i < 65536) ∧
    (∀ g o : Nat, (0x22 :: (bytes16 g ++ (Table.fill 3 o).cells.flatMap bytes16)).length = (9 : Byte).toNat) ∧
    ([256, 16384].all (fun g => decide (256 ≤ g ∧ g ≤ 16384 ∧ g < 65536)) = true ∧
      ∀ i, 1024 ≤ (Table.fill 3 1024).get i) ∧
    (255 < 256 ∧ 16384 < 16385 ∧ ∃ i, (Table.fill 3 1023).get i < 1024) ∧
    (State.reset.store.loading = true ∧ up.store.loading = false) :=
  ⟨by decide +kernel, fun _ => ⟨_, _, rfl⟩, by decide, by decide, fun _ _ => rfl, by decide, by decide, by decide⟩

/-- A STRIP frame's bytes after its start byte: lab 1, FILM, lot 7, gate 1024, all counts 5000. -/
def stripBytes : List Byte :=
  let covered := [34, 0x21, 0, 1, 1, 0, 0, 0, 7, 4, 0] ++ (List.replicate 12 (bytes16 5000)).flatten
  covered ++ checkBytes covered

/-- A CAL frame's bytes after its start byte: gate 256, open counts 1024. -/
def calBytes : List Byte :=
  let covered := [9, 0x22, 1, 0, 4, 0, 4, 0, 4, 0]
  covered ++ checkBytes covered

/-- A line about to consume the last of a frame's bytes. -/
def lastOf (bs : List Byte) (cal : Calibration) : Reader :=
  { wire with phase := .receiving bs.dropLast, fifo := [char (bs.getLastD 0)], cal := cal }

/-- What AcceptedFrames asks of every state, for a frame of these bytes on reader line 0. -/
def completes (s : State) (bs : List Byte) : Bool :=
  (s.reader 0).onWire && decide ((s.reader 0).sending = none) && (s.reader 0).waiting.isEmpty &&
  decide ((s.reader 0).phase = .receiving bs.dropLast) && decide ((s.reader 0).fifo = [char (bs.getLastD 0)]) &&
  frameComplete (bs.dropLast ++ [bs.getLastD 0])

/-- The strip that `stripBytes` forms. -/
def strip1000 : Strip := { strip with readings := Table.fill 12 ⟨1000, .unmarked⟩ }

theorem test_AcceptedFrames_met :
    (∃ s : State, completes s stripBytes = true ∧ judgeFrame s 0 stripBytes = .strip strip1000 ∧
      (s.reader 0).cal = .valid (Table.fill 3 50000) 1024 1 ∧ s.queue.length = 23 ∧ s.heldOrder = []) ∧
    (∃ s : State, completes s stripBytes = true ∧ judgeFrame s 0 stripBytes = .strip strip1000 ∧
      s.queue.length = 24 ∧ s.heldOrder = []) ∧
    (∃ s : State, completes s stripBytes = true ∧ judgeFrame s 0 stripBytes = .strip strip1000 ∧
      s.queue.length = 23 ∧ s.heldOrder ≠ []) ∧
    ∃ s : State, completes s calBytes = true ∧ judgeFrame s 0 calBytes = .cal ⟨256, Table.fill 3 1024⟩ :=
  let s := (lab (film .active) (lot7 .current)).setReader 0 (lastOf stripBytes (.valid (Table.fill 3 50000) 1024 1))
  ⟨⟨{ s with queue := List.replicate 23 ⟨strip, 1⟩ }, by decide +kernel⟩,
   ⟨{ s with queue := List.replicate 24 ⟨strip, 1⟩ }, by decide +kernel⟩,
   ⟨{ s with queue := List.replicate 23 ⟨strip, 1⟩, heldOrder := [1] }, by decide +kernel⟩,
   ⟨at0 (lastOf calBytes .uncalibrated), by decide +kernel⟩⟩

theorem test_TransmitterSends_met :
    (∃ s : State, (s.reader 0).sending = some ⟨.reply .accepted, .r19200⟩ ∧ (s.reader 0).waiting = []) ∧
    (∃ s : State, (s.reader 0).sending = some ⟨.reply .wait, .r19200⟩ ∧ (s.reader 0).waiting = [.accepted]) ∧
    (∃ s : State, (s.reader 0).inLoop = true ∧ (s.reader 0).sending = some ⟨.test 0, .r19200⟩ ∧
      (s.reader 0).testSender = [] ∧ (s.reader 0).fifo.length = 63) ∧
    ∃ s : State, (s.reader 0).inLoop = true ∧ (s.reader 0).sending = some ⟨.test 0, .r19200⟩ ∧
      (s.reader 0).testSender = [1] ∧ (s.reader 0).fifo.length = 63 :=
  ⟨⟨at0 { wire with sending := some ⟨.reply .accepted, .r19200⟩ }, by decide⟩,
   ⟨at0 { wire with sending := some ⟨.reply .wait, .r19200⟩, waiting := [.accepted] }, by decide⟩,
   ⟨at0 { loop with sending := some ⟨.test 0, .r19200⟩, fifo := List.replicate 63 (char 0) }, by decide⟩,
   ⟨at0 { loop with sending := some ⟨.test 0, .r19200⟩, fifo := List.replicate 63 (char 0), testSender := [1] },
     by decide⟩⟩

/-- A full FIFO in LOOPBACK, and a character in transmission in LOOPBACK and on the wire. -/
theorem test_TransmitterSends_full_met :
    (∃ s : State, (s.reader 0).inLoop = true ∧ (s.reader 0).sending = some ⟨.test 0, .r19200⟩ ∧
      (s.reader 0).fifo = List.replicate 63 (char 0) ++ [char 1] ∧ (s.reader 0).testSender = []) ∧
    (∃ s : State, (s.reader 0).inLoop = true ∧ (s.reader 0).sending = some ⟨.test 0, .r19200⟩ ∧
      (s.reader 0).fifo = List.replicate 63 (char 0) ++ [char 1] ∧ (s.reader 0).testSender = [1]) ∧
    (wire.sending = none ∧ wire.inLoop = false ∧ loop.inLoop = true) :=
  let full := { loop with sending := some ⟨.test 0, .r19200⟩, fifo := List.replicate 63 (char 0) ++ [char 1] }
  ⟨⟨at0 full, by decide⟩, ⟨at0 { full with testSender := [1] }, by decide⟩, by decide⟩

/-- SET-READER on reader line 0 with a CAL-LIFE. -/
def setting (r : Reader) (enable : Bool) (rate : Rate) (loopback : Bool) (life : Byte) : State :=
  on (at0 r) .setReader [byte 0, flagByte enable, rate.code, flagByte loopback, life] none

theorem test_SetReaderReplacesSettings_met (r : Reader) (enable loopback : Bool) (rate : Rate) (life : Byte) :
    ((setting r enable rate loopback life).executes .mp0 .setReader
        [byte 0, flagByte enable, rate.code, flagByte loopback, life] ∧
      (setting r enable rate loopback life).permits .mp0 .setReader none) ∧
    (setting r enable rate loopback life).reader 0 = r ∧
    (wire.enable = true ∧ wire.loopback = false ∧ wire.rate = .r19200) ∧
    (wire.inLoop = false ∧ wire.enable ≠ false) ∧ wire.rate ≠ .r9600 ∧ (loop.inLoop = true ∧ loop.rate ≠ .r57600) ∧
    ((0 : Byte) ≠ 1 ∧ (0 : Byte) ≠ 255) :=
  ⟨on_ok _ rfl rfl .setReader _ none, Table.get_set_self .., by decide, by decide, by decide, by decide, by decide⟩

theorem test_ClearReaderFaults_met :
    (∃ s : State, s.executes .mp0 .clearReaderFaults [4]) ∧
    ∃ s : State, s.executes .mp0 .clearReaderFaults [3] ∧ s.permits .mp0 .clearReaderFaults none :=
  ⟨⟨on up .clearReaderFaults [4] none, rfl⟩, on up .clearReaderFaults [3] none, on_ok up rfl rfl ..⟩

theorem test_TestReader_met (r : Reader) :
    ((on (at0 r) .testReader [byte 0] none).executes .mp0 .testReader [byte 0] ∧
      (on (at0 r) .testReader [byte 0] none).permits .mp0 .testReader none) ∧
    (on (at0 r) .testReader [byte 0] none).reader 0 = r ∧ wire.inLoop = false ∧
    { loop with test := .running }.inLoop = true ∧
    (loop.inLoop = true ∧ loop.test ≠ .running ∧ loop.sending = none ∧ loop.testSender = []) :=
  ⟨on_ok _ rfl rfl .testReader _ none, Table.get_set_self .., by decide, by decide, by decide⟩

/-! ### The evaluation engine -/

/-- The part with one record of the current day in the queue. -/
def taking (c : LineCtx) (l : Lot) : State := { lab c l with queue := [⟨strip, 1⟩] }

theorem test_EvaluationTake_met :
    (∃ s : State, s.queue = [⟨strip, 1⟩] ∧ s.heldOrder = [] ∧ s.day.state = .dayOpen ∧
      recheck s strip = .error .lineGone) ∧
    (∃ s : State, s.queue = [⟨strip, 1⟩] ∧ s.heldOrder = [] ∧ s.day.state = .draining ∧ s.drain = 1 ∧
      recheck s strip = .error .lineGone) ∧
    (∃ s : State, s.queue = [⟨strip, 1⟩] ∧ s.heldOrder = [] ∧ s.day.state = .dayOpen ∧
      recheck s strip = .ok (film .active, lot7 .current)) ∧
    (∃ s : State, s.queue = [⟨strip, 1⟩, ⟨strip, 1⟩] ∧ s.heldOrder = [] ∧ s.day.state = .draining ∧ s.drain = 2 ∧
      recheck s strip = .ok (film .active, lot7 .current)) ∧
    (∃ s : State, s.queue = [⟨strip, 1⟩] ∧ s.heldOrder = [] ∧ s.day.state = .draining ∧ s.drain = 1 ∧
      recheck s strip = .ok (film .active, lot7 .current)) ∧
    (∃ s : State, s.queue = [⟨strip, 1⟩] ∧ s.heldOrder = [] ∧ s.day.state = .closing (.consensus 0)) ∧
    ∃ s : State, s.queue = [⟨strip, 1⟩] ∧ s.heldOrder = [] ∧ s.day.state = .transferWait :=
  let s := taking (film .active) (lot7 .current)
  ⟨⟨{ up with queue := [⟨strip, 1⟩] }, by decide +kernel⟩,
   ⟨{ inDay up .draining with queue := [⟨strip, 1⟩], drain := 1 }, by decide +kernel⟩, ⟨s, by decide +kernel⟩,
   ⟨{ inDay s .draining with queue := [⟨strip, 1⟩, ⟨strip, 1⟩], drain := 2 }, by decide +kernel⟩,
   ⟨{ inDay s .draining with drain := 1 }, by decide +kernel⟩, ⟨inDay s (.closing (.consensus 0)), by decide +kernel⟩,
   ⟨inDay s .transferWait, by decide +kernel⟩⟩

/-- A part in which line 3's frame is held behind 24 records of day 1, under this calibration. -/
def waitingFrame (cal : Calibration) : State :=
  let s := taking (film .active) (lot7 .current)
  { s.setReader 3 { wire with phase := .held { strip with reader := 3 }, cal := cal } with
    queue := List.replicate 24 ⟨strip, 1⟩, heldOrder := [3] }

/-- A frame is held in OPEN with a VALID calibration, and in DRAINING, after a request, with none; the take of a record
that passes and of one that fails both give it the place. -/
theorem test_EvaluationTake_grant_met :
    (∃ s : State, QueueOk s ∧ s.day.state = .dayOpen ∧ s.queue = ⟨strip, 1⟩ :: List.replicate 23 ⟨strip, 1⟩ ∧
      s.heldOrder = 3 :: [] ∧ (s.reader 3).phase = .held { strip with reader := 3 } ∧
      (s.reader 3).cal = .valid (Table.fill 3 50000) 1000 1 ∧ recheck s strip = .ok (film .active, lot7 .current)) ∧
    (∃ s : State, QueueOk s ∧ s.day.state = .draining ∧ s.drain = 24 ∧ s.heldOrder = 3 :: [] ∧
      s.queue = ⟨strip, 1⟩ :: List.replicate 23 ⟨strip, 1⟩ ∧ (s.reader 3).phase = .held { strip with reader := 3 } ∧
      (s.reader 3).cal = .uncalibrated ∧ recheck s strip = .ok (film .active, lot7 .current)) ∧
    (∃ s : State, QueueOk s ∧ s.queue.length = 24 ∧ s.heldOrder = [3] ∧ recheck s strip = .error .lotGone) ∧
    ∃ s : State, s.heldOrder = [] ∧ s.queue = [] ∧ s.day.state = .dayOpen :=
  let late := inDay (waitingFrame .uncalibrated) .draining
  ⟨⟨waitingFrame (.valid (Table.fill 3 50000) 1000 1), by unfold QueueOk; decide +kernel, by decide +kernel⟩,
   ⟨{ late with drain := 24 }, by unfold QueueOk; decide +kernel, by decide +kernel⟩,
   ⟨(waitingFrame .uncalibrated).setLot 0 none, by unfold QueueOk; decide +kernel, by decide +kernel⟩, up, by decide⟩

/-- The re-check's order (R48): each record fails at its first failing check. -/
theorem test_recheckOrder :
    recheck (lab { film .suspended with lab := 2 } (lot7 .retired)) strip = .error .lineGone ∧
    recheck (lab (film .suspended) (lot7 .retired)) strip = .error (.nak .suspended) ∧
    recheck (lab (film .active) { lot7 .retired with code := 8 }) strip = .error .lotGone ∧
    recheck (lab (film .active) (lot7 .retired)) strip = .error (.nak .lotRetired) := by decide +kernel

theorem test_NewPointPlacement_met :
    (∃ (s : State) (c : LineCtx), s.line 0 = some c ∧ c.ring = [] ∧ c.epochPoints = 255) ∧
    (∃ (s : State) (c : LineCtx), s.line 0 = some c ∧ (∀ q ∈ c.ring, q.day ≠ 40) ∧ c.ring.length = 20) ∧
    ∀ v, (compute strip (lot7 .current) { AimPart.default with aims := Table.fill 12 ⟨100, -150, -80, 80, 150⟩ }).verdicts.get
      v ≠ .actionHigh :=
  ⟨⟨lab { film .active with epochPoints := 255 } (lot7 .current), { film .active with epochPoints := 255 },
     by decide +kernel⟩,
   ⟨lab { film .active with ring := (List.range 20).map fun d => point (d + 1) .void } (lot7 .current),
     { film .active with ring := (List.range 20).map fun d => point (d + 1) .void }, by decide +kernel⟩,
   by decide +kernel⟩

theorem test_LaterStripsOfADay_met :
    (∃ (c : LineCtx) (pt : Point) (before : List Point), c.ring = before ++ [pt] ∧ pt.day = 2 ∧
      (∀ q ∈ before, q.day ≠ 2) ∧ pt.state = .provisional ∧ pt.code = strip.code ∧ pt.reruns = 7) ∧
    (∃ (c : LineCtx) (pt : Point), c.ring = [pt] ∧ pt.day = 2 ∧ pt.state = .provisional ∧ pt.code ≠ strip.code) ∧
    ∃ (c : LineCtx) (pt : Point), c.ring = [pt] ∧ pt.day = 2 ∧ pt.state = .void :=
  ⟨⟨{ film .active with ring := [point 1 .void, { point 2 .provisional with reruns := 7 }] },
     { point 2 .provisional with reruns := 7 }, [point 1 .void], by decide⟩,
   ⟨{ film .active with ring := [{ point 2 .provisional with code := 8 }] }, { point 2 .provisional with code := 8 },
     by decide⟩,
   ⟨{ film .active with ring := [point 2 .void] }, point 2 .void, by decide⟩⟩

/-- A line whose PROVISIONAL point of day 2 is on lot 8, its deviations `m` below those of `strip` in the values that
`strip` reads at 100. -/
def crossing (m : Int) : LineCtx :=
  { film .active with ring := [{ point 2 .provisional with
      code := 8, deviations := Table.ofFn fun v => if v.val % 4 = 0 ∨ v.val % 4 = 3 then 100 - m else 0 }] }

/-- The three cases on an enrolled line, the largest difference at the tolerance and above it. -/
theorem test_LaterStripsOfADay_offers_met :
    (∃ (s : State) (c : LineCtx), s.line 0 = some c ∧ c.ring = [point 1 .void] ++ point 2 .provisional :: [] ∧
      (point 2 .provisional).code = strip.code) ∧
    (∀ m : Int, m = 40 ∨ m = 41 → ∃ (s : State) (pt : Point), s.line 0 = some (crossing m) ∧ (crossing m).ring = [pt] ∧
      pt.state = .provisional ∧ pt.code ≠ strip.code ∧ s.day.desk.tolerance = 40 ∧
      let x := compute strip (lot7 .current) (s.aim (crossing m).aim).active
      (∃ v, (x.deviations.get v - pt.deviations.get v).natAbs = m.toNat) ∧
      ∀ v, (x.deviations.get v - pt.deviations.get v).natAbs ≤ m.toNat) ∧
    ∃ (s : State) (c : LineCtx), s.line 0 = some c ∧ c.ring = [] ++ point 2 .void :: [] :=
  ⟨⟨lab { film .active with ring := [point 1 .void, point 2 .provisional] } (lot7 .current), _, Table.get_set_self ..,
     rfl, rfl⟩,
   fun m h => ⟨lab (crossing m) (lot7 .current), _, Table.get_set_self .., rfl, by
     rcases h with rfl | rfl <;> decide +kernel⟩,
   ⟨lab { film .active with ring := [point 2 .void] } (lot7 .current), _, Table.get_set_self .., rfl⟩⟩

/-- Raised to the power 2000, a power of ten in steps of half a thousandth is a whole power. -/
theorem tenPower (k : Nat) : ((10 : ℝ) ^ ((k : ℝ) / 2000)) ^ 2000 = 10 ^ k := by
  rw [← Real.rpow_natCast, ← Real.rpow_mul (by norm_num), ← Real.rpow_natCast]
  congr 1; push_cast; ring

/-- A whole number lies in the window of d from 1 when its powers do. -/
theorem window {q d : Nat} (h1 : 10 ^ (2 * d + 1) ≤ q ^ 2000) (h2 : q ^ 2000 < 10 ^ (2 * d + 3)) :
    (10 : ℝ) ^ ((((d + 1 : Nat) : ℝ) - 1 / 2) / 1000) ≤ (q : ℝ) ∧
    (q : ℝ) < (10 : ℝ) ^ ((((d + 1 : Nat) : ℝ) + 1 / 2) / 1000) := by
  have e1 : (((d + 1 : Nat) : ℝ) - 1 / 2) / 1000 = ((2 * d + 1 : Nat) : ℝ) / 2000 := by push_cast; ring
  have e2 : (((d + 1 : Nat) : ℝ) + 1 / 2) / 1000 = ((2 * d + 3 : Nat) : ℝ) / 2000 := by push_cast; ring
  rw [e1, e2]
  refine ⟨le_of_pow_le_pow_left₀ (n := 2000) (by norm_num) (by positivity) ?_,
    lt_of_pow_lt_pow_left₀ 2000 (by positivity) ?_⟩
  · rw [tenPower]; exact_mod_cast h1
  · rw [tenPower]; exact_mod_cast h2

/-- The last unmarked density and the first beyond the scale: quotients 10000 and 10023. -/
theorem test_DensityConversion_met :
    ((10 : ℝ) ^ ((((4000 : Nat) : ℝ) - 1 / 2) / 1000) ≤ ((10000 : Nat) : ℝ) ∧
      ((10000 : Nat) : ℝ) < (10 : ℝ) ^ ((((4000 : Nat) : ℝ) + 1 / 2) / 1000)) ∧
    ((10 : ℝ) ^ ((((4001 : Nat) : ℝ) - 1 / 2) / 1000) ≤ ((10023 : Nat) : ℝ) ∧
      ((10023 : Nat) : ℝ) < (10 : ℝ) ^ ((((4001 : Nat) : ℝ) + 1 / 2) / 1000)) ∧
    ((50000 : Nat) : ℝ) / ((5 : Nat) : ℝ) = ((10000 : Nat) : ℝ) ∧
    ((50115 : Nat) : ℝ) / ((5 : Nat) : ℝ) = ((10023 : Nat) : ℝ) := by
  refine ⟨window (d := 3999) (by decide +kernel) (by decide +kernel),
    window (d := 4000) (by decide +kernel) (by decide +kernel), by norm_num, by norm_num⟩

theorem test_ControlValuesAndDeviations_met :
    (∃ l : Lot, ∀ v, (compute strip l AimPart.default).deviations.get v = -4000) ∧
    (∃ l : Lot, ∀ v, -4000 ≤ (compute strip l AimPart.default).deviations.get v ∧
      (compute strip l AimPart.default).deviations.get v ≤ 4000) ∧
    ∃ l : Lot, ∀ v, (compute strip l AimPart.default).deviations.get v = 4000 :=
  ⟨⟨{ lot7 .current with refs := Table.fill 12 4101 }, by decide +kernel⟩, ⟨lot7 .current, by decide +kernel⟩,
   ⟨{ lot7 .current with refs := Table.fill 12 (-4001) }, by decide +kernel⟩⟩

/-- Each band of the default limits at its boundary. -/
theorem test_VerdictBandsAndDirections_met :
    (AimPart.default.aims.get 0).valid = true ∧
    [150, 149, 80, 79, -79, -80, -149, -150].map (band (AimPart.default.aims.get 0)) =
      [.actionHigh, .warnHigh, .warnHigh, .inside, .inside, .warnLow, .warnLow, .actionLow] := by decide +kernel

/-- Each row of the two tables at a boundary. -/
theorem test_TrendFilterUpdate_met :
    (Filter.feed ⟨.positive, 9, .up, 8, some 0⟩ 1 = ⟨.positive, 9, .up, 8, some 1⟩ ∧
      Filter.feed ⟨.negative, 9, .down, 8, some 0⟩ 1 = ⟨.positive, 1, .up, 2, some 1⟩) ∧
    (Filter.feed ⟨.negative, 8, .down, 7, some 0⟩ (-1) = ⟨.negative, 9, .down, 8, some (-1)⟩ ∧
      Filter.feed ⟨.positive, 3, .up, 3, some 0⟩ (-1) = ⟨.negative, 1, .down, 2, some (-1)⟩) ∧
    Filter.feed ⟨.positive, 3, .up, 3, some 0⟩ 0 = ⟨.flat, 0, .flat, 1, some 0⟩ ∧
    Filter.feed Filter.clear 0 = ⟨.flat, 0, .flat, 1, some 0⟩ := by decide

/-! ### The day -/

/-- CLOSE-DAY at MP0 in a day unit. -/
def closing (d : DayUnit) : State := on (up.setDay d) .closeDay [] none

theorem test_CloseDayCommand_met (d : DayUnit) :
    ((closing d).executes .mp0 .closeDay [] ∧ (closing d).permits .mp0 .closeDay none) ∧ (closing d).day = d ∧
    (∃ d : DayUnit, d.desk.mode = .follower) ∧ (∃ d : DayUnit, d.desk.mode = .leader ∧ d.state ≠ .dayOpen) ∧
    (∃ d : DayUnit, d.desk.mode = .alone ∧ d.state = .dayOpen ∧ d.number = 65535) ∧
    (∃ d : DayUnit, d.desk.mode = .alone ∧ d.state = .dayOpen ∧ d.number = 65534 ∧ d.firstClose = false ∧
      d.timer = 359 ∧ d.timer * 100 < d.desk.length * (100 - d.desk.window)) ∧
    ∃ d : DayUnit, d.desk.mode = .leader ∧ d.state = .dayOpen ∧ d.number = 65534 ∧ d.firstClose = false ∧
      d.timer = 360 ∧ ¬ d.timer * 100 < d.desk.length * (100 - d.desk.window) :=
  let r := DayUnit.reset
  ⟨on_ok _ rfl rfl .closeDay _ none, rfl, ⟨{ r with desk := { r.desk with mode := .follower } }, by decide⟩,
   ⟨{ r with desk := { r.desk with mode := .leader }, state := .transferWait }, by decide⟩,
   ⟨{ r with number := 65535 }, by decide⟩, ⟨{ r with number := 65534, firstClose := false, timer := 359 }, by decide⟩,
   ⟨{ r with desk := { r.desk with mode := .leader }, number := 65534, firstClose := false, timer := 360 },
     by decide⟩⟩

theorem test_EdgesTicksAndExpiry_met :
    up.day.desk.mode ≠ .follower ∧
    (∃ d : DayUnit, d.desk.mode = .follower ∧ d.state = .dayOpen ∧ d.number = 65534) ∧
    (∃ d : DayUnit, d.desk.mode = .follower ∧ d.state ≠ .dayOpen) ∧
    (∃ d : DayUnit, d.desk.mode = .follower ∧ d.number = 65535) ∧
    (∃ s : State, s.store.loading = false ∧ s.day.number = 65534 ∧ s.day.timer + 1 = s.day.desk.length) ∧
    (∃ s : State, s.store.loading = true) ∧
    (∃ d : DayUnit, d.timer = d.desk.length ∧ d.state = .dayOpen ∧ d.number = 65534) ∧
    ∃ d : DayUnit, d.timer + 1 = d.desk.length :=
  let r := DayUnit.reset
  let f := { r with desk := { r.desk with mode := .follower } }
  ⟨by decide, ⟨{ f with number := 65534 }, by decide⟩, ⟨{ f with state := .draining }, by decide⟩,
   ⟨{ f with number := 65535 }, by decide⟩, ⟨up.setDay { r with number := 65534, timer := 1439 }, by decide⟩,
   ⟨State.reset, by decide⟩, ⟨{ r with number := 65534, timer := 1440 }, by decide⟩,
   ⟨{ r with timer := 1439 }, by decide⟩⟩

/-- A line whose ring is one point of day 1 on lot 7, all values WARN-HIGH at deviation 90. -/
def charted (st : LineState) (pt : PointState) : LineCtx := { film st with ring := [point 1 pt] }

/-- The desk with the quorum 1. -/
def quorum1 (s : State) : State := s.setDay { s.day with desk := { s.day.desk with quorum := 1 } }

/-- The participants as the statement has them. -/
def parting (s : State) (k : Fin 16) (l : Lot) : List Point :=
  (List.finRange 96).filterMap fun n => (s.line n).bind fun (c : LineCtx) =>
    (c.ring.find? fun (q : Point) => decide (q.day = s.day.closingDay)).filter fun (q : Point) =>
      decide (q.state = .provisional ∧ q.slot = k ∧ q.code = l.code ∧ c.kind = l.kind ∧ q.settling = false ∧
        q.doubtful = false)

theorem test_ConsensusStep_met :
    (∃ s : State, s.day.state = .closing (.consensus 15) ∧ s.lot 15 = none) ∧
    (∃ (s : State) (l : Lot), s.day.state = .closing (.consensus 0) ∧ s.lot 0 = some l ∧ parting s 0 l = []) ∧
    ∃ (s : State) (l : Lot), s.day.state = .closing (.consensus 0) ∧ s.lot 0 = some l ∧
      parting s 0 l = [point 1 .provisional] ∧ declared s.day.desk (parting s 0 l) 0 = some ⟨.high, 90⟩ :=
  ⟨⟨inDay up (.closing (.consensus 15)), by decide +kernel⟩,
   ⟨inDay (lab (film .active) (lot7 .current)) (.closing (.consensus 0)), lot7 .current, by decide +kernel⟩,
   ⟨quorum1 (inDay (lab (charted .active .provisional) (lot7 .current)) (.closing (.consensus 0))), lot7 .current,
     by decide +kernel⟩⟩

/-- Lot 7 with a shift of day 1: HIGH 60 in every value. -/
def shifted : Lot := { lot7 .current with shift := some ⟨1, Table.fill 12 ⟨some ⟨.high, 60⟩, 3, 3⟩⟩ }

theorem test_FinalisationStep_met :
    (∃ s : State, s.day.state = .closing (.finalisation 95) ∧ s.line 95 = none) ∧
    (∃ (s : State) (c : LineCtx), s.day.state = .closing (.finalisation 0) ∧ s.line 0 = some c ∧
      ∀ q ∈ c.ring, q.day = s.day.closingDay → q.state ≠ .provisional) ∧
    ∃ (s : State) (c : LineCtx) (pt : Point), s.day.state = .closing (.finalisation 0) ∧ s.line 0 = some c ∧
      c.ring = [pt] ∧ pt.day = s.day.closingDay ∧ pt.state = .provisional ∧
      appliedShift (s.lot pt.slot) c pt s.day.closingDay 0 = some 60 :=
  ⟨⟨inDay up (.closing (.finalisation 95)), by decide +kernel⟩,
   ⟨inDay (lab (charted .active .void) (lot7 .current)) (.closing (.finalisation 0)), charted .active .void,
     by decide +kernel⟩,
   ⟨inDay (lab (charted .active .provisional) shifted) (.closing (.finalisation 0)), charted .active .provisional,
     point 1 .provisional, by decide +kernel⟩⟩

theorem test_OverdueAndCountdownSteps_met :
    (∃ (s : State) (c : LineCtx), s.day.state = .closing (.overdue 0) ∧ s.line 0 = some c ∧ c.state = .enrolled) ∧
    (∃ (s : State) (c : LineCtx), s.day.state = .closing (.overdue 0) ∧ s.line 0 = some c ∧ c.state = .active ∧
      c.missed + 1 < s.day.desk.overdueLimit ∧ ∀ q ∈ c.ring, q.day ≠ s.day.closingDay) ∧
    (∃ (s : State) (c : LineCtx), s.day.state = .closing (.overdue 0) ∧ s.line 0 = some c ∧ c.state = .active ∧
      c.missed + 1 = s.day.desk.overdueLimit ∧ ∀ q ∈ c.ring, q.day ≠ s.day.closingDay) ∧
    (∃ (s : State) (l : Lot), s.day.state = .closing (.countdown 0) ∧ s.lot 0 = some l ∧ l.state = .retiring 1) ∧
    (∃ (s : State) (l : Lot), s.day.state = .closing (.countdown 0) ∧ s.lot 0 = some l ∧ l.state = .retiring 7) ∧
    (∃ (s : State) (l : Lot), s.day.state = .closing (.countdown 0) ∧ s.lot 0 = some l ∧ l.state = .current) ∧
    (∃ s : State, s.day.state = .closing (.overdue 95) ∧ s.line 95 = none) ∧
    (∃ s : State, s.day.state = .closing (.countdown 15) ∧ s.lot 15 = none ∧ s.store.isSaving = false) ∧
    ∃ s : State, s.day.state = .closing (.countdown 15) ∧ s.lot 15 = none ∧ s.store.isSaving = true :=
  let missed := fun c => inDay (lab c (lot7 .current)) (.closing (.overdue 0))
  let count := fun l => inDay (lab (film .active) l) (.closing (.countdown 0))
  ⟨⟨missed (film .enrolled), film .enrolled, by decide +kernel⟩, ⟨missed (film .active), film .active, by decide +kernel⟩,
   ⟨missed { film .active with missed := 1 }, { film .active with missed := 1 }, by decide +kernel⟩,
   ⟨count (lot7 (.retiring 1)), lot7 (.retiring 1), by decide +kernel⟩,
   ⟨count (lot7 (.retiring 7)), lot7 (.retiring 7), by decide +kernel⟩,
   ⟨count (lot7 .current), lot7 .current, by decide +kernel⟩, ⟨inDay up (.closing (.overdue 95)), by decide +kernel⟩,
   ⟨inDay up (.closing (.countdown 15)), by decide +kernel⟩,
   ⟨inDay (up.setStore { up.store with phase := .saving [] }) (.closing (.countdown 15)), by decide +kernel⟩⟩

/-- An aim set whose pending part differs from its active one. -/
def edited : AimSet := { AimSet.default with pending := { AimPart.default with run := 9 } }

/-- A lot whose pending corrections differ from its active ones. -/
def corrected : Lot := { lot7 .current with pending := Table.fill 12 500 }

/-- An item held by MP1. -/
def taken (s : State) (i : Item) : State := { s with holds := [⟨i, .mp1, 1⟩] }

theorem test_TransferStepsAndSummary_met :
    (∃ s : State, s.day.state = .closing .summary ∧ s.day.last = some ⟨1, .port .mp0⟩) ∧
    (∃ s : State, s.day.state = .closing (.transferAim 15) ∧ (s.aim 15).active = (s.aim 15).pending) ∧
    (∃ s : State, s.day.state = .closing (.transferAim 0) ∧ (s.aim 0).active ≠ (s.aim 0).pending ∧
      s.holder (.aim 0) ≠ none) ∧
    (∃ s : State, s.day.state = .closing (.transferAim 0) ∧ (s.aim 0).active ≠ (s.aim 0).pending ∧
      s.holder (.aim 0) = none) ∧
    (∃ s : State, s.day.state = .closing (.transferLot 15) ∧ s.lot 15 = none) ∧
    (∃ s : State, s.day.state = .closing (.transferLot 0) ∧ s.lot 0 = some (lot7 .current) ∧
      (lot7 .current).active = (lot7 .current).pending) ∧
    (∃ s : State, s.day.state = .closing (.transferLot 0) ∧ s.lot 0 = some corrected ∧
      corrected.active ≠ corrected.pending ∧ s.holder (.lot 0) ≠ none) ∧
    ∃ s : State, s.day.state = .closing (.transferLot 0) ∧ s.lot 0 = some corrected ∧ s.holder (.lot 0) = none :=
  let set := inDay (up.setAim 0 edited) (.closing (.transferAim 0))
  let slot := inDay (up.setLot 0 (some corrected)) (.closing (.transferLot 0))
  ⟨⟨inDay up (.closing .summary), by decide +kernel⟩, ⟨inDay up (.closing (.transferAim 15)), by decide +kernel⟩,
   ⟨taken set (.aim 0), by decide +kernel⟩, ⟨set, by decide +kernel⟩,
   ⟨inDay up (.closing (.transferLot 15)), by decide +kernel⟩,
   ⟨inDay (up.setLot 0 (some (lot7 .current))) (.closing (.transferLot 0)), by decide +kernel⟩,
   ⟨taken slot (.lot 0), by decide +kernel⟩, ⟨slot, by decide +kernel⟩⟩

/-! ### Lines -/

/-- ENROLL-LINE of lab 1, FILM, aim set 0 in a state. -/
def enrolling (s : State) : State := on s .enrollLine [0, 1, 1, 0] none

theorem test_EnrollLine_met (s : State) (hs : s.store.phase = .idle) (hl : s.level = 0) :
    ((enrolling s).executes .mp0 .enrollLine [0, 1, 1, 0] ∧ (enrolling s).permits .mp0 .enrollLine none) ∧
    (nat16 0 0 = 0 ∧ nat16 0xFF 0xFF = 65535 ∧ nat16 0xFF 0xFE = 65534 ∧ (16 : Byte).toNat = 16 ∧
      kindOf 2 ≠ none ∧ kindOf 3 = none ∧ kindOf 1 = some .film ∧ nat16 0 1 = 1) ∧
    (∃ s : State, s.executes .mp0 .enrollLine [0, 1, 1, 0] ∧ s.store.loading = false ∧ s.store.isSaving = false ∧
      s.level = 3) :=
  ⟨on_ok s hs hl .enrollLine _ none, by decide, { on up .enrollLine [0, 1, 1, 0] none with level := 3 }, rfl, rfl, rfl,
    rfl⟩

/-- The part with every line enrolled for one lab. -/
def fullLines : State := { up with lines := Table.fill 96 (some { film .enrolled with lab := 9 }) }

/-- The part in which line 95 alone is UNUSED. -/
def oneUnused : State := fullLines.setLine 95 none

theorem test_EnrollLine_cases_met :
    (∃ s : State, s.findLine 1 .film ≠ none) ∧
    (∃ s : State, s.findLine 1 .film = none ∧ (s.aim 0).kind ≠ .film) ∧
    (∃ s : State, s.findLine 1 .film = none ∧ (s.aim 0).kind = .film ∧ ∀ n, s.line n ≠ none) ∧
    (∃ s : State, s.findLine 1 .film = none ∧ (s.aim 0).kind = .film ∧ (∃ n, s.line n = none) ∧
      ∀ n, s.line n = none → s.holder (.line n) = some (otherPort .mp0)) ∧
    ∃ s : State, s.findLine 1 .film = none ∧ (s.aim 0).kind = .film ∧ s.line 95 = none ∧
      s.holder (.line 95) ≠ some (otherPort .mp0) ∧
      ∀ j, j < 95 → s.line j = none → s.holder (.line j) = some (otherPort .mp0) :=
  ⟨⟨lab (film .active) (lot7 .current), by decide +kernel⟩,
   ⟨up.setAim 0 { AimSet.default with kind := .paper }, by decide +kernel⟩, ⟨fullLines, by decide +kernel⟩,
   ⟨taken oneUnused (.line 95), by decide +kernel⟩, ⟨oneUnused, by decide +kernel⟩⟩

theorem test_LineEdits_met (c : LineCtx) (l : Lot) (cmd : Command) (params : List Byte) :
    ((on (lab c l) cmd params (some (.line 0))).executes .mp0 cmd params ∧
      (on (lab c l) cmd params (some (.line 0))).permits .mp0 cmd (some (.line 0))) ∧
    (on (lab c l) cmd params (some (.line 0))).line 0 = some c ∧
    ((on (lab c l) cmd params none).permits .mp0 cmd none ∧
      (on (lab c l) cmd params none).holder (.line 0) ≠ some (otherPort .mp0)) ∧
    (∃ s : State, s.executes .mp0 cmd params ∧ s.permits .mp0 cmd (some (.line 95)) ∧ s.line 95 = none) ∧
    (∃ s : State, s.executes .mp0 cmd params ∧ s.permits .mp0 cmd none ∧ s.line 95 = none ∧
      s.holder (.line 95) ≠ some (otherPort .mp0)) ∧
    (film .suspended).state = .suspended ∧ (film .active).state ≠ .suspended ∧
    (AimSet.default.kind = (film .active).kind ∧ AimSet.default.kind ≠ { film .active with kind := .paper }.kind) ∧
    ((charted .active .provisional).ring = [] ++ point 1 .provisional :: [] ∧ (point 1 .provisional).state ≠ .void ∧
      (point 1 .void).state = .void ∧ nat16 0 1 = 1) :=
  ⟨on_ok _ rfl rfl cmd _ _, Table.get_set_self .., ⟨(on_ok _ rfl rfl cmd _ none).2, by simp [on, State.holder,
    State.holdOn]⟩,
   ⟨on up cmd params (some (.line 95)), rfl, (on_ok up rfl rfl cmd _ _).2, rfl⟩,
   ⟨on up cmd params none, rfl, (on_ok up rfl rfl cmd _ none).2, rfl, by simp [on, up, State.reset, State.holder,
     State.holdOn]⟩, rfl, by decide, by decide, by decide⟩

/-- CHEM-EVENT while the other port holds the line. -/
theorem test_LineEdits_chemHeld_met :
    ∃ s : State, s.executes .mp0 .chemEvent [byte 0, 1] ∧ s.permits .mp0 .chemEvent none ∧
      s.line 0 = some (film .active) ∧ s.holder (.line 0) = some (otherPort .mp0) :=
  ⟨{ on (lab (film .active) (lot7 .current)) .chemEvent [byte 0, 1] none with holds := [⟨.line 0, .mp1, 60⟩] }, rfl,
    commonRefusal_none.mp (by decide +kernel), Table.get_set_self .., by decide +kernel⟩

theorem test_WithdrawLine_met (st : LineState) :
    (∃ s : State, s.line 95 = none ∧ s.executes .mp0 .withdrawLine [byte 95] ∧
      s.permits .mp0 .withdrawLine (some (.line 95))) ∧
    ∃ s : State, s.line 0 = some (film st) ∧ s.executes .mp0 .withdrawLine [byte 0] ∧
      s.permits .mp0 .withdrawLine (some (.line 0)) ∧ (s.alerts.map AlertEntry.number).Nodup :=
  ⟨⟨on up .withdrawLine [byte 95] (some (.line 95)), rfl, rfl, (on_ok up rfl rfl .withdrawLine _ _).2⟩,
   on (lab (film st) (lot7 .current)) .withdrawLine [byte 0] (some (.line 0)), Table.get_set_self .., rfl,
    (on_ok _ rfl rfl .withdrawLine _ _).2, List.nodup_nil⟩

/-! ### Aim sets and lots -/

theorem test_AimWrites_met (a : AimSet) (cmd : Command) (params : List Byte) :
    ((on (up.setAim 0 a) cmd params (some (.aim 0))).executes .mp0 cmd params ∧
      (on (up.setAim 0 a) cmd params (some (.aim 0))).permits .mp0 cmd (some (.aim 0))) ∧
    (on (up.setAim 0 a) cmd params (some (.aim 0))).aim 0 = a ∧
    ({ AimPart.default with run := 5, slope := 8, settling := 5 }.valid = true ∧
      { AimPart.default with run := 4 }.valid = false ∧ { AimPart.default with settling := 6 }.valid = false) ∧
    ({ AimPart.default with aims := AimPart.default.aims.set 11 ⟨500, -2000, -1999, 1, 2⟩ }.valid = true ∧
      { AimPart.default with aims := AimPart.default.aims.set 11 ⟨501, -2000, -1999, 1, 2⟩ }.valid = false ∧
      { AimPart.default with aims := AimPart.default.aims.set 11 ⟨500, -80, -80, 1, 2⟩ }.valid = false) :=
  ⟨on_ok _ rfl rfl cmd _ _, Table.get_set_self .., by decide +kernel, by decide +kernel⟩

/-- Sets of the other kind, with a line that names one and without. -/
theorem test_AimWrites_kinds_met :
    (∃ s : State, (s.aim 0).kind ≠ .paper ∧ ∃ n c, s.line n = some c ∧ c.aim = 0) ∧
    (∃ s : State, (s.aim 0).kind ≠ .paper ∧ ∀ n c, s.line n = some c → c.aim ≠ 0) ∧
    (AimSet.default.preload = true ∧ { AimSet.default with preload := false }.preload = false) :=
  ⟨⟨lab (film .active) (lot7 .current), by decide, 0, film .active, Table.get_set_self .., rfl⟩,
   ⟨up, by decide, fun n c h => by
     simp only [up, State.reset, State.line, Table.get_fill] at h; cases h⟩, by decide⟩

theorem test_PreloadAndDiscard_met (a : AimSet) (cmd : Command) (params : List Byte) :
    ∃ s : State, s.executes .mp0 cmd params ∧ s.permits .mp0 cmd (some (.aim 15)) ∧ s.aim 15 = a :=
  ⟨on (up.setAim 15 a) cmd params (some (.aim 15)), rfl, (on_ok _ rfl rfl cmd _ _).2, Table.get_set_self ..⟩

/-- DEFINE-LOT of the highest code and the ends of the reference range. -/
theorem test_DefineLotAndMakeCurrent_met :
    ((1 : Nat) ≤ 4294967295 ∧ ∀ v : Fin 12, -4000 ≤ (Table.fill 12 (4000 : Int)).get v ∧
      (Table.fill 12 (4000 : Int)).get v ≤ 4000) ∧
    (∀ params, ∃ s : State, s.executes .mp0 .defineLot params ∧ s.permits .mp0 .defineLot (some (.lot 15)) ∧
      s.lot 15 = none ∧ ∀ j l, s.lot j = some l → l.code ≠ 4294967295) ∧
    (∀ params, ∃ s : State, s.executes .mp0 .defineLot params ∧ s.permits .mp0 .defineLot (some (.lot 15)) ∧
      s.lot 15 = none ∧ ∃ j l, s.lot j = some l ∧ l.code = 7) ∧
    ∀ st, ∃ s : State, s.executes .mp0 .makeCurrent [byte 0] ∧ s.permits .mp0 .makeCurrent (some (.lot 0)) ∧
      s.lot 0 = some (lot7 st) :=
  ⟨by decide,
   fun params => ⟨on up .defineLot params (some (.lot 15)), rfl, (on_ok up rfl rfl .defineLot _ _).2, rfl,
     fun j l h => by simp only [on, up, State.reset, State.lot, Table.get_fill] at h; cases h⟩,
   fun params => ⟨on (lab (film .active) (lot7 .current)) .defineLot params (some (.lot 15)), rfl,
     (on_ok _ rfl rfl .defineLot _ _).2,
     (by decide +kernel : (lab (film .active) (lot7 .current)).lot 15 = none), 0, lot7 .current, Table.get_set_self .., rfl⟩,
   fun st => ⟨on (lab (film .active) (lot7 st)) .makeCurrent [byte 0] (some (.lot 0)), rfl,
     (on_ok _ rfl rfl .makeCurrent _ _).2, Table.get_set_self ..⟩⟩

/-- A predecessor: lot 8 CURRENT in slot 1 beside lot 7 DEFINED in slot 0. -/
def succession : State :=
  (lab (film .active) (lot7 .defined)).setLot 1 (some { lot7 .current with code := 8 })

theorem test_MakeCurrent_predecessor_met :
    (∀ j m, (lab (film .active) (lot7 .defined)).lot j = some m → m.state = .current → m.kind ≠ .film) ∧
    succession.lot 1 = some { lot7 .current with code := 8 } ∧
    (∀ j m, succession.lot j = some m → m.state = .current → m.kind = .film → j = 1) ∧
    (taken succession (.lot 1)).holder (.lot 1) = some (otherPort .mp0) ∧
    succession.holder (.lot 1) ≠ some (otherPort .mp0) := by
  refine ⟨?_, Table.get_set_self .., ?_, by decide +kernel, by decide +kernel⟩
  · intro j m h hs
    simp only [lab, State.lot, State.setLot, Table.get_set] at h
    split at h
    · simp at h; subst h; simp [lot7] at hs
    · simp [up, State.reset, State.setLine] at h
  · intro j m h hs _
    simp only [succession, lab, State.lot, State.setLot, Table.get_set] at h
    split at h
    · rename_i e; exact e.symm
    · split at h
      · simp at h; subst h; simp [lot7] at hs
      · simp [up, State.reset, State.setLine] at h

theorem test_LotEdits_met (l : Lot) (cmd : Command) (params : List Byte) :
    (∃ s : State, s.executes .mp0 cmd params ∧ s.permits .mp0 cmd (some (.lot 0)) ∧ s.lot 0 = some l ∧
      (s.alerts.map AlertEntry.number).Nodup) ∧
    (∃ s : State, s.executes .mp0 cmd params ∧ s.permits .mp0 cmd (some (.lot 0)) ∧ s.lot 0 = none) ∧
    ((lot7 .retired).state = .retired ∧ (lot7 (.retiring 1)).state ≠ .retired ∧ (lot7 .current).proposal = none ∧
      { lot7 .current with proposal := some (Table.fill 12 (some 500)) }.proposal = some (Table.fill 12 (some 500))) ∧
    (int16 0x01 0xF4 = 500 ∧ int16 0x01 0xF5 = 501 ∧ int16 0xFE 0x0C = -500 ∧ int16 0xFE 0x0B = -501) :=
  ⟨⟨on (lab (film .active) l) cmd params (some (.lot 0)), rfl, (on_ok _ rfl rfl cmd _ _).2, Table.get_set_self ..,
     List.nodup_nil⟩,
   ⟨on up cmd params (some (.lot 0)), rfl, (on_ok up rfl rfl cmd _ _).2, rfl⟩, by decide, by decide⟩

theorem test_WriteDesk_met :
    (∀ d : Desk, ∃ s : State, s.executes .mp0 .writeDesk d.bytes ∧ s.permits .mp0 .writeDesk (some .desk)) ∧
    (Desk.inRange ⟨600, 25, .follower, 3, 50, 10, 1, 1⟩ = true ∧ Desk.inRange ⟨2160, 100, .leader, 24, 90, 200, 7, 7⟩ = true) ∧
    ((3 : Byte).toNat = 3 ∧ nat16 2 87 = 599 ∧ nat16 8 113 = 2161 ∧ (26 : Byte).toNat ∉ [25, 50, 75, 100]) :=
  ⟨fun d => ⟨on up .writeDesk d.bytes (some .desk), on_ok up rfl rfl ..⟩, by decide, by decide⟩

/-! ### Holds and reads -/

theorem test_HoldTable_met :
    (∀ cmd params, ∃ s : State, s.executes .mp0 cmd params ∧ s.permits .mp0 cmd none ∧ s.holder .desk = none ∧
      s.holds.length < 8) ∧
    (∃ s : State, s.executes .mp0 .hold [4, 0, 60] ∧ s.permits .mp0 .hold none ∧ s.holder .desk = none ∧
      s.holds.length = 8) ∧
    (∀ cmd params, ∃ s : State, s.executes .mp0 cmd params ∧ s.permits .mp0 cmd none ∧ s.holder .desk = some .mp0) ∧
    (∀ cmd params, ∃ s : State, s.executes .mp0 cmd params ∧ s.permits .mp0 cmd none ∧ s.holder .desk = some .mp1) ∧
    ((taken up (.line 95)).holdOn (.line 95) = some ⟨.line 95, .mp1, 1⟩ ∧
      { up with holds := [⟨.line 95, .mp1, 2⟩] }.holdOn (.line 95) = some ⟨.line 95, .mp1, 2⟩ ∧
      up.holdOn (.line 95) = none) :=
  ⟨fun cmd params => ⟨on up cmd params none, rfl, (on_ok up rfl rfl cmd _ none).2, rfl, Nat.zero_lt_succ 7⟩,
   ⟨{ on up .hold [4, 0, 60] none with holds := (List.finRange 8).map fun i => ⟨.aim ⟨i.val, by omega⟩, .mp1, 1⟩ }, rfl,
     commonRefusal_none.mp (by decide), by decide, by decide⟩,
   fun cmd params => ⟨{ on up cmd params none with holds := [⟨.desk, .mp0, 1⟩] }, rfl,
     commonRefusal_none.mp (by cases cmd <;> rfl), rfl⟩,
   fun cmd params => ⟨{ on up cmd params none with holds := [⟨.desk, .mp1, 1⟩] }, rfl,
     commonRefusal_none.mp (by cases cmd <;> rfl), rfl⟩,
   by decide⟩

/-- A point that an earlier pass made FINAL. -/
def finalPoint (day : Nat) : Point := point day (.final (Table.fill 12 5) (Table.fill 12 .inside) (Table.fill 12 false))

/-- An alert of a line for a set of ports. -/
def alert (k : Fin 32) (n : Fin 96) (ports : PortSet) : AlertEntry :=
  ⟨k, 7, ⟨.line n, some 0⟩, .warn, 1, some 90, 1, ports⟩

/-- Line 0 with a FINAL point of day 1 and a VOID one of day 2. -/
def read2 : LineCtx := { film .active with ring := [finalPoint 1, point 2 .void] }

theorem test_Reads_met (c : LineCtx) (cmd : Command) (params : List Byte) (es : List AlertEntry) :
    (∃ s : State, s.executes .mp0 cmd params ∧ s.permits .mp0 cmd none ∧ s.line 0 = some c ∧ s.alerts = es) ∧
    (∃ s : State, s.executes .mp0 cmd params ∧ s.permits .mp0 cmd none ∧ s.line 95 = none) ∧
    (∃ s : State, s.executes .mp0 .readStore [] ∧ s.store.loading = true) ∧
    (read2.ring.length = 2 ∧ read2.ring = [] ++ finalPoint 1 :: [point 2 .void] ∧ (finalPoint 1).state.isFinal = true ∧
      (∀ x ∈ [point 2 .void], x.state.isFinal = false) ∧ ∀ q ∈ (film .active).ring, q.state.isFinal = false) ∧
    ([alert 0 0 ⟨false, true⟩, alert 1 1 ⟨true, true⟩] =
        [alert 0 0 ⟨false, true⟩] ++ alert 1 1 ⟨true, true⟩ :: [] ∧
      (∀ x ∈ [alert 0 0 ⟨false, true⟩], x.ports.has .mp0 = false) ∧ (alert 1 1 ⟨true, true⟩).ports.has .mp0 = true) :=
  ⟨⟨{ on (lab c (lot7 .current)) cmd params none with alerts := es }, rfl, commonRefusal_none.mp (by cases cmd <;> rfl),
     Table.get_set_self .., rfl⟩,
   ⟨on up cmd params none, rfl, (on_ok up rfl rfl cmd _ none).2, rfl⟩,
   ⟨on State.reset .readStore [] none, rfl, rfl⟩, by decide +kernel, by decide +kernel⟩

/-- The ends of a signed quantity, a full hold table and a FINAL point. -/
theorem test_ReadDataLengths_met :
    ((0 : Int) ≤ 32767 ∧ (32767 : Int) < 32768 ∧ (-32768 : Int) ≤ -32768 ∧ (-1 : Int) < 0) ∧
    (∃ s : State, s.holds.length = 8 ∧ s.holds.length ≤ 8) ∧
    ∃ (q : Point) (r : Table Int 12) (v : Table Verdict 12) (a : Table Bool 12), q.state = .final r v a :=
  ⟨by decide, ⟨{ up with holds := List.replicate 8 ⟨.desk, .mp0, 1⟩ }, by decide⟩, finalPoint 1, _, _, _, rfl⟩

/-! ### Alerts and attention -/

/-- The part with these entries, both ports subscribed or neither. -/
def alerted (es : List AlertEntry) (subs : BitVec 9) : State :=
  { up with
    alerts := es, mp0 := { up.mp0 with subscription := subs }, mp1 := { up.mp1 with subscription := subs } }

/-- A full list. -/
def fullList : List AlertEntry := (List.finRange 32).map fun k => alert k ⟨k.val, by omega⟩ ⟨true, true⟩

theorem test_OfferCases_met :
    let o : Offer := ⟨⟨.line 95, some 0⟩, .warn, 1, some 90⟩
    let first := alert 0 0 ⟨true, true⟩
    let own := alert 1 95 ⟨true, false⟩
    let ports : State → PortSet := fun s =>
      ⟨s.mp0.subscription.getLsbD o.kind.code, s.mp1.subscription.getLsbD o.kind.code⟩
    (∃ s : State, ports s = ⟨false, false⟩ ∧
      s.alerts.find? (fun (x : AlertEntry) => decide (x.key = o.key)) = some own) ∧
    (∃ s : State, ports s = ⟨false, false⟩ ∧ ∀ e ∈ s.alerts, e.key ≠ o.key) ∧
    (∃ s : State, ports s ≠ ⟨false, false⟩ ∧ s.alerts = [first] ++ own :: [] ∧ own.key = o.key ∧
      (∀ x ∈ [first], x.key ≠ o.key) ∧ ∀ x ∈ [first] ++ [], x.number ≠ own.number) ∧
    (∃ s : State, ports s ≠ ⟨false, false⟩ ∧ (∀ e ∈ s.alerts, e.key ≠ o.key) ∧ s.alerts.length < 32 ∧
      (∀ e ∈ s.alerts, e.number ≠ 1) ∧ ∀ j : Fin 32, j < 1 → ∃ e ∈ s.alerts, e.number = j) ∧
    ∃ s : State, ports s ≠ ⟨false, false⟩ ∧ (∀ e ∈ s.alerts, e.key ≠ o.key) ∧ s.alerts.length = 32 := by
  refine ⟨⟨alerted [alert 0 0 ⟨true, true⟩, alert 1 95 ⟨true, false⟩] 0, ?_⟩, ⟨alerted [] 0x1FE, ?_⟩,
    ⟨alerted [alert 0 0 ⟨true, true⟩, alert 1 95 ⟨true, false⟩] 1, ?_⟩, ⟨alerted [alert 0 0 ⟨true, true⟩] 0x1FF, ?_⟩,
    ⟨alerted fullList 0x1FF, ?_⟩⟩ <;> decide +kernel

/-- A full list behind which OVERDUE waits for line 0 and WARN for value 0 of slot 0. -/
def behind (subs : BitVec 9) : State :=
  let s := lab { film .active with waiting := (Table.fill 13 none).set 12 (some .overdue) }
    { lot7 .current with waiting := (Table.fill 12 none).set 0 (some .warn) }
  { s with
    alerts := fullList, mp0 := { s.mp0 with subscription := subs }, mp1 := { s.mp1 with subscription := subs } }

/-- The first of two waiting kinds, with a port subscribed to it and with none, and nothing waiting. -/
theorem test_OfferCases_departure_met :
    (∀ k, up.waitingAt k = none) ∧
    (∀ subs, (behind subs).waitingAt ⟨.line 0, none⟩ = some .overdue ∧
      (behind subs).waitingAt ⟨.lot 0, some 0⟩ = some .warn ∧
      ∀ j, (behind subs).waitingAt j ≠ none → scanRank ⟨.line 0, none⟩ ≤ scanRank j) ∧
    ((behind 0x0FF).mp0.subscription.getLsbD AlertKind.overdue.code = false ∧
      (behind 0x100).mp0.subscription.getLsbD AlertKind.overdue.code = true) ∧
    ((∀ e ∈ (behind 0x100).alerts.filter fun (e : AlertEntry) => e.number != 31, e.number ≠ 31) ∧
      ∀ j : Fin 32, j < 31 → ∃ e ∈ (behind 0x100).alerts.filter fun (e : AlertEntry) => e.number != 31, e.number = j) ∧
    (∃ c, (behind 0).line 0 = some c) ∧ (behind 0).line 95 = none ∧ (∃ l, (behind 0).lot 0 = some l) ∧
    (behind 0).lot 15 = none := by
  refine ⟨?_, fun subs => ⟨rfl, rfl, ?_⟩, by decide +kernel, by decide +kernel, ⟨_, Table.get_set_self ..⟩,
    by decide +kernel, ⟨_, Table.get_set_self ..⟩, by decide +kernel⟩
  · rintro ⟨k, v⟩
    cases k <;> cases v <;> simp [up, State.reset, State.waitingAt, State.line, State.lot]
  · intro j hj
    have h : ∀ j ∈ scanKeys, (behind subs).waitingAt j ≠ none → scanRank ⟨.line 0, none⟩ ≤ scanRank j := by
      have e : ∀ j, (behind subs).waitingAt j = (behind 0).waitingAt j := fun _ => rfl
      simp only [e]
      decide +kernel
    exact h j (mem_scanKeys hj) hj

/-- The part with these entries and a command in execution. -/
def acting (es : List AlertEntry) (subs : BitVec 9) (cmd : Command) (params : List Byte) : State :=
  on (alerted es subs) cmd params none

theorem test_AcknowledgeAndSubscribe_met :
    let own := alert 31 0 ⟨true, true⟩
    let last := alert 31 0 ⟨true, false⟩
    let theirs := alert 31 0 ⟨false, true⟩
    (∀ es params cmd, ∃ s : State, s.executes .mp0 cmd params ∧ s.permits .mp0 cmd none ∧ s.alerts = es) ∧
    (([own].map AlertEntry.number).Nodup ∧ [own] = [] ++ own :: [] ∧ own.number = 31 ∧ own.serial ≠ 8 ∧ own.serial = 7 ∧
      theirs.ports.has .mp0 = false ∧ own.ports = ⟨true, true⟩ ∧ last.ports.has .mp0 = true ∧
      last.ports.has (otherPort .mp0) = false ∧ ∀ e ∈ [own], e.number ≠ 0) ∧
    ((1 : Byte).toNat < 2 ∧ 2 ≤ (2 : Byte).toNat ∧
      ∃ s : State, s.executes .mp0 .setSubscription [1, 0xFF] ∧ s.permits .mp0 .setSubscription none ∧
        (s.alerts.map AlertEntry.number).Nodup ∧ s.alerts = [own] ∧
        ∀ e ∈ s.alerts, e.ports.empty = false ∧ ((BitVec.ofNat 9 (nat16 1 0xFF)).getLsbD e.kind.code = true ∨
          (s.port .mp0).subscription.getLsbD e.kind.code = false)) :=
  ⟨fun es params cmd => ⟨acting es 0x1FF cmd params, rfl, (on_ok (alerted es 0x1FF) rfl rfl cmd _ none).2, rfl⟩,
   by decide +kernel,
   by decide, by decide, acting [alert 31 0 ⟨true, true⟩] 0x1FF .setSubscription [1, 0xFF], rfl,
     (on_ok (alerted _ 0x1FF) rfl rfl .setSubscription _ none).2, by decide +kernel, rfl, by decide +kernel⟩

/-- MP0 with the CLOSE and STORE requests and the STORE group HIGH, a command in execution. -/
def asking (masks : BitVec 5) (cmd : Command) (params : List Byte) : State :=
  on { up with mp0 := { up.mp0 with masks := masks, groups := 0x10, closeFlag := true, storeFlag := true } } cmd params none

theorem test_AttentionCommands_met :
    (∃ s : State, s.executes .mp0 .getAttention [] ∧ s.permits .mp0 .getAttention none ∧
      ∀ c, ¬ (s.request .mp0 c = true ∧ (s.port .mp0).masks.getLsbD c.code = true)) ∧
    (∃ s : State, s.executes .mp0 .getAttention [] ∧ s.permits .mp0 .getAttention none ∧
      (s.request .mp0 .store = true ∧ (s.port .mp0).masks.getLsbD Cause.store.code = true) ∧
      ∀ x, (s.request .mp0 x = true ∧ (s.port .mp0).masks.getLsbD x.code = true) → x = .store ∨
        ((s.port .mp0).groups.getLsbD Cause.store.code = true ∧ ¬ (s.port .mp0).groups.getLsbD x.code = true) ∨
          (((s.port .mp0).groups.getLsbD Cause.store.code = true ↔ (s.port .mp0).groups.getLsbD x.code = true) ∧
            Cause.store.code < x.code)) ∧
    (∃ s : State, s.executes .mp0 .setAttention [31, 31] ∧ s.permits .mp0 .setAttention none) ∧
    (31 : Byte).toNat < 32 ∧ 32 ≤ (32 : Byte).toNat :=
  ⟨⟨asking 0 .getAttention [], rfl, (on_ok _ rfl rfl .getAttention _ none).2, by
      intro c; cases c <;> decide +kernel⟩,
   ⟨asking 0x1F .getAttention [], rfl, (on_ok _ rfl rfl .getAttention _ none).2, by decide +kernel, by
      intro c; cases c <;> decide +kernel⟩,
   ⟨asking 0x1F .setAttention [31, 31], rfl, (on_ok _ rfl rfl .setAttention _ none).2⟩, by decide, by decide⟩

/-! ### Ports -/

/-- MP0 in a condition. -/
def port0 (u : PortUnit) : State := { up with mp0 := u }

/-- MP0 in a selection. -/
def chosen (st : PortState) (cut : Bool) : PortUnit := { PortUnit.reset with selection := some ⟨st, cut⟩ }

theorem test_CommandSelections_met :
    (∃ s : State, (s.port .mp0).selection = none) ∧
    (∃ s : State, (s.port .mp0).selection = some ⟨.notReady, false⟩ ∧ (s.port .mp0).executing ≠ none) ∧
    (∃ s : State, (s.port .mp0).selection = some ⟨.ready, true⟩) ∧
    (∀ params : List Byte, ∃ (s : State) (bytes : List Byte), (s.port .mp0).selection = some ⟨.noResponse, false⟩ ∧
      bytes = [0x41, byte params.length] ++ params ++ checkBytes ([0x41, byte params.length] ++ params) ∧
      Instr.wellFormed (.commandSelection .mp0 bytes) = true) ∧
    ∃ (s : State) (bytes : List Byte), (s.port .mp0).selection = some ⟨.noResponse, false⟩ ∧
      Instr.wellFormed (.commandSelection .mp0 bytes) = true ∧ bytes = 0x41 :: [] ∧
      ∀ params : List Byte, params.length ≤ 120 →
        bytes ≠ [0x41, byte params.length] ++ params ++ checkBytes ([0x41, byte params.length] ++ params) :=
  ⟨⟨up, rfl⟩, ⟨port0 { chosen .notReady false with executing := some ⟨0x41, []⟩ }, by decide⟩,
   ⟨port0 (chosen .ready true), rfl⟩,
   fun params => ⟨port0 (chosen .noResponse false), _, rfl, rfl, by
     simp [Instr.wellFormed, Config.collectByte]⟩,
   port0 (chosen .noResponse false), [0x41], rfl, by decide, rfl, fun params _ h => by simp at h⟩

theorem test_CollectSelections_met :
    (∃ s : State, (s.port .mp0).selection = some ⟨.noResponse, false⟩) ∧
    (∃ s : State, (s.port .mp0).selection = some ⟨.ready, true⟩) ∧
    ∀ r : Response, ∃ s : State, (s.port .mp0).selection = some ⟨.ready, false⟩ ∧ (s.port .mp0).response = some r :=
  ⟨⟨port0 (chosen .noResponse false), rfl⟩, ⟨port0 (chosen .ready true), rfl⟩, fun r => ⟨port0 { chosen .ready false with response := some r }, rfl, rfl⟩⟩

theorem test_RefusalsOfCommands_met :
    (∃ (s : State) (t : Taken), (s.port .mp0).executing = some t ∧ knownCode t.code = false) ∧
    (∀ c params, ∃ s : State, s.executes .mp0 c params ∧ s.store.loading = true) ∧
    (∀ c params, ∃ s : State, s.executes .mp0 c params ∧ s.store.isSaving = true) ∧
    (∀ c params, ∃ s : State, s.executes .mp0 c params ∧ s.store.phase = .idle ∧ s.level = 1) ∧
    (96 ≤ (96 : Byte).toNat ∧ 16 ≤ (16 : Byte).toNat ∧ 4 ≤ (4 : Byte).toNat) ∧
    (Command.locked .writeDesk 3 = true ∧ Command.changesImage .writeDesk = true ∧
      [(1 : Byte)].length ≠ Command.paramLen .readDay) ∧
    ∃ (s t : State) (r : Response), s.executes .mp0 .readDay [] ∧
      exec (Command.row .readDay .mp0 0 0) s = .next t ∧ (t.port .mp0).response = some r ∧ r.status.refusal = true :=
  ⟨⟨port0 { PortUnit.reset with executing := some ⟨0x00, []⟩ }, ⟨0, []⟩, rfl, by decide +kernel⟩,
   fun c params => ⟨on State.reset c params none, rfl, rfl⟩,
   fun c params => ⟨on (up.setStore { up.store with phase := .saving [] }) c params none, rfl, rfl⟩,
   fun c params => ⟨{ on up c params none with level := 1 }, rfl, rfl, rfl⟩, by decide, by decide,
   on State.reset .readDay [] none, _, _, rfl, rfl, rfl, by decide +kernel⟩

/-- Parameters that pass step 3 and that do not, each at the end of a range. -/
theorem test_RefusalsOfCommands_params_met :
    (Command.paramsPass .writeDesk [2, 88, 100, 2, 24, 90, 200, 7, 7] ∧ Command.paramsPass .setLock [3] ∧
      Command.paramsPass .enrollLine [0xFF, 0xFE, 2, 15]) ∧
    (¬ Command.paramsPass .setLock [4] ∧ [(4 : Byte)].length = Command.paramLen .setLock) ∧
    (∃ s : State, s.executes .mp0 .setLock [3] ∧ s.store.loading = true) ∧
    (∃ s : State, s.executes .mp0 .enrollLine [0xFF, 0xFE, 2, 15] ∧ s.store.isSaving = true) ∧
    ∃ s : State, s.executes .mp0 .enrollLine [0xFF, 0xFE, 2, 15] ∧ s.store.phase = .idle ∧
      Command.locked .enrollLine s.level = true :=
  ⟨⟨⟨2, 88, 100, 2, 24, 90, 200, 7, 7, rfl, by decide⟩, ⟨3, rfl, by decide⟩, ⟨0xFF, 0xFE, 2, 15, rfl, by decide⟩⟩,
   ⟨fun ⟨a, h, h4⟩ => by obtain rfl : (4 : Byte) = a := by simpa using h
                         exact absurd h4 (by decide), rfl⟩,
   ⟨on State.reset .setLock [3] none, rfl, rfl⟩,
   ⟨on (up.setStore { up.store with phase := .saving [] }) .enrollLine _ none, rfl, rfl⟩,
   { on up .enrollLine _ none with level := 3 }, rfl, rfl, rfl⟩

theorem test_HoldsNeeded_met (c : Command) (params : List Byte) (i : Item) :
    (∃ s : State, s.executes .mp0 c params ∧ s.store.phase = .idle ∧ s.level = 0 ∧ s.holder i = none) ∧
    (∃ s : State, s.executes .mp0 c params ∧ s.store.phase = .idle ∧ s.level = 0 ∧
      s.holder i = some (otherPort .mp0)) ∧
    (Desk.default.inRange = true ∧ (1 : Nat) ≤ 4294967295 ∧ int16 0x01 0xF4 = 500 ∧ int16 0xFE 0x0C = -500 ∧
      ∀ v, -4000 ≤ (Table.fill 12 (-4000 : Int)).get v ∧ (Table.fill 12 (-4000 : Int)).get v ≤ 4000) :=
  ⟨⟨on up c params none, rfl, rfl, rfl, rfl⟩,
   ⟨{ on up c params none with holds := [⟨i, .mp1, 1⟩] }, rfl, rfl, rfl, by
     simp [State.holder, State.holdOn, otherPort]⟩, by decide⟩

/-! ### The store -/

/-- The store while a body is being written. -/
def saving (body : List Byte) (writes : Nat) : State :=
  up.setStore { up.store with phase := .saving body, writes := writes }

theorem test_SavingTheImage_met :
    (∃ s : State, s.executes .mp0 .saveImage [] ∧ s.permits .mp0 .saveImage none ∧ s.day.state = .dayOpen ∧
      s.store.phase = .idle) ∧
    (∃ s : State, s.executes .mp0 .saveImage [] ∧ s.permits .mp0 .saveImage none ∧ s.day.state ≠ .dayOpen) ∧
    (∃ (s : State) (body : List Byte), s.store.phase = .saving body ∧ s.store.writes = 120 ∧ MemoryOk s) ∧
    (∃ (s : State) (body : List Byte), s.store.phase = .saving body ∧ s.store.writes = 121) ∧
    ∃ (s : State) (body : List Byte), s.store.phase = .saving body ∧ s.day.state = .transferWait :=
  ⟨⟨on up .saveImage [] none, rfl, (on_ok up rfl rfl .saveImage _ none).2, rfl, rfl⟩,
   ⟨on (inDay up .draining) .saveImage [] none, rfl, (on_ok _ rfl rfl .saveImage _ none).2, by decide⟩,
   ⟨saving [] 120, [], rfl, rfl, by unfold MemoryOk; decide⟩, ⟨saving [] 121, [], rfl, rfl⟩,
   ⟨inDay (saving [] 3) .transferWait, [], rfl, rfl⟩⟩

/-- The check code of a body that reads 0xFF everywhere. -/
def blankCheck : Word16 := checkCode ((State.reset).memory.readBytes 16 3856)

/-- A serial memory whose header passes. -/
def headed : Memory := Memory.writeBytes [] 0 [0x5C, 0x3A, 0x00, 0x01, 0x0F, 0x10, 0x12, 0x34]

theorem test_LoadingTheImage_met :
    (∃ s : State, s.store.phase = .loadingHeader ∧
      (s.memory.readBytes 0 16).take 6 ≠ [0x5C, 0x3A, 0x00, 0x01, 0x0F, 0x10]) ∧
    (∃ s : State, s.store.phase = .loadingHeader ∧
      (s.memory.readBytes 0 16).take 8 = [0x5C, 0x3A, 0x00, 0x01, 0x0F, 0x10, 0x12, 0x34]) ∧
    ∃ (s : State) (c : Word16), s.store.phase = .loadingBody c ∧ checkCode (s.memory.readBytes 16 3856) = c :=
  ⟨⟨State.reset, rfl, by decide⟩, ⟨{ State.reset with memory := headed }, rfl, by decide +kernel⟩,
   { State.reset with store := ⟨.loadingBody blankCheck, .noOutcome, 0, 0⟩ }, blankCheck, rfl, rfl⟩

/-! ### System commands -/

theorem test_SetLockAndResetPort_met :
    (∀ a : Byte, ∃ s : State, s.executes .mp0 .setLock [a] ∧ s.permits .mp0 .setLock none ∧ s.level = 0) ∧
    (∀ cmd, cmd = .setLock ∨ cmd = .resetPort → ∃ s : State, s.executes .mp0 cmd [3] ∧ s.permits .mp0 cmd none ∧
      s.level = 3) ∧
    (∃ s : State, s.executes .mp0 .resetPort [] ∧ s.permits .mp0 .resetPort none ∧ s.holds ≠ [] ∧ s.alerts ≠ []) ∧
    (3 : Byte).toNat ≤ 3 ∧ 4 ≤ (4 : Byte).toNat ∧ exec .noAnswer up = .next up :=
  ⟨fun a => ⟨on up .setLock [a] none, rfl, (on_ok up rfl rfl .setLock _ none).2, rfl⟩,
   fun cmd h => ⟨{ on up cmd [3] none with level := 3 }, rfl, commonRefusal_none.mp (by rcases h with rfl | rfl <;> rfl), rfl⟩,
   ⟨taken (acting [alert 0 0 ⟨true, true⟩] 0x1FF .resetPort []) .desk, rfl, commonRefusal_none.mp (by decide +kernel),
     by decide, by decide⟩, by decide, by decide, rfl⟩

/-! ### The laws -/

/-- A state that keeps every law: lab 1 on line 0 with a FINAL point, lot 7 CURRENT, a record in the queue, a hold, an
alert, and the end of a CLOSE-OUT pulse to come. -/
def lawful : State :=
  { lab { film .active with ring := [finalPoint 1] } (lot7 .current) with
    day := { DayUnit.reset with number := 2, last := some ⟨1, .expiry⟩, firstClose := false, closeOut := true }
    queue := [⟨strip, 2⟩], holds := [⟨.lot 0, .mp1, 60⟩], alerts := [alert 0 0 ⟨true, true⟩]
    pending := [.closeOutPulseEnd] }

theorem lawful_line (n : Fin 96) (c : LineCtx) (h : lawful.line n = some c) :
    n = 0 ∧ c = { film .active with ring := [finalPoint 1] } := by
  simp only [lawful, lab, State.line, State.setLine, State.setLot, Table.get_set] at h
  split at h
  · rename_i e; exact ⟨e.symm, by simpa using h.symm⟩
  · simp [up, State.reset] at h

theorem lawful_lot (k : Fin 16) (l : Lot) (h : lawful.lot k = some l) : k = 0 ∧ l = lot7 .current := by
  simp only [lawful, lab, State.lot, State.setLine, State.setLot, Table.get_set] at h
  split at h
  · rename_i e; exact ⟨e.symm, by simpa using h.symm⟩
  · simp [up, State.reset] at h

/-- The hypotheses of the laws of the tables hold in one state that takes a step. -/
theorem lawful_tables :
    (∃ t, step lawful = .next t) ∧ MemoryOk lawful ∧ HoldsOk lawful ∧ LoadingOk lawful ∧ LabMapOk lawful ∧
    BindingOk lawful ∧ AimsOk lawful ∧ LotsOk lawful := by
  refine ⟨⟨_, rfl⟩, by unfold MemoryOk; decide, by unfold HoldsOk; decide,
    fun h => absurd h (by decide),
    ⟨by decide, by decide, ?_, ?_⟩, ?_, ?_, ⟨by decide, ?_, ?_, ?_⟩⟩
  · intro e h
    simp [lawful, lab] at h
    subst h
    exact ⟨{ film .active with ring := [finalPoint 1] }, Table.get_set_self .., rfl, rfl⟩
  · intro n c h
    obtain ⟨rfl, rfl⟩ := lawful_line n c h
    decide
  · intro n c h
    obtain ⟨rfl, rfl⟩ := lawful_line n c h
    decide
  · intro k
    revert k
    decide +kernel
  · intro j k l m hj hk _
    rw [(lawful_lot j l hj).1, (lawful_lot k m hk).1]
  · intro j k l m hj hk _ _ _
    rw [(lawful_lot j l hj).1, (lawful_lot k m hk).1]
  · intro k l c h e
    rw [(lawful_lot k l h).2] at e
    cases e

/-- The hypotheses of the other laws hold in the same state. -/
theorem lawful_queues :
    QueueOk lawful ∧ ReadersOk lawful ∧ AlertsOk lawful ∧ PortsOk lawful ∧ DayOk lawful := by
  refine ⟨⟨by decide, by decide, by decide, ?_⟩, ?_, ⟨by decide, by decide, by decide, by decide +kernel, ?_⟩, ?_,
    ⟨by decide, by decide, fun h => absurd rfl h, ⟨by decide, by decide, by decide, by decide⟩, ?_⟩⟩
  · intro rl; simp [lawful, lab, State.setLine, State.setLot, up, State.reader, Reader.isHeld, Reader.reset, State.reset]
  · intro rl
    simp [lawful, lab, State.setLine, State.setLot, up, State.reader, Reader.reset, Reader.ok, Config.fifoDepth,
      Reader.inLoop, Reader.holdsReply]
  · rintro ⟨k, v⟩ h
    cases k with
    | line n =>
      simp only [State.waitingAt] at h
      cases e : lawful.line n with
      | none => simp [e] at h
      | some c => obtain ⟨rfl, rfl⟩ := lawful_line n c e; simp [e, film, LineCtx.fresh] at h
    | lot k =>
      cases v with
      | none => simp [State.waitingAt] at h
      | some v =>
        simp only [State.waitingAt] at h
        cases e : lawful.lot k with
        | none => simp [e] at h
        | some c => obtain ⟨rfl, rfl⟩ := lawful_lot k c e; simp [e, lot7, Lot.fresh] at h
  · simp [PortsOk, lawful, lab, State.setLine, State.setLot, up, State.reset, PortUnit.ok, PortUnit.reset]
  · intro n c h
    obtain ⟨rfl, rfl⟩ := lawful_line n c h
    refine ⟨by decide, by decide, ?_⟩
    intro q hq
    simp at hq
    subst hq
    exact ⟨by decide, by decide, fun h => by cases h⟩

theorem test_StepKeepsMemoryCanonical_met : (∃ t, step lawful = .next t) ∧ MemoryOk lawful :=
  ⟨lawful_tables.1, lawful_tables.2.1⟩

theorem test_StepKeepsHoldTable_met : (∃ t, step lawful = .next t) ∧ HoldsOk lawful :=
  ⟨lawful_tables.1, lawful_tables.2.2.1⟩

theorem test_StepKeepsLabMap_met :
    (∃ t, step lawful = .next t) ∧ LoadingOk lawful ∧ LabMapOk lawful ∧ BindingOk lawful :=
  ⟨lawful_tables.1, lawful_tables.2.2.2.1, lawful_tables.2.2.2.2.1, lawful_tables.2.2.2.2.2.1⟩

theorem test_StepKeepsAimSets_met : (∃ t, step lawful = .next t) ∧ AimsOk lawful :=
  ⟨lawful_tables.1, lawful_tables.2.2.2.2.2.2.1⟩

theorem test_StepKeepsLots_met : (∃ t, step lawful = .next t) ∧ LotsOk lawful :=
  ⟨lawful_tables.1, lawful_tables.2.2.2.2.2.2.2⟩

theorem test_StepKeepsIntakeQueue_met : (∃ t, step lawful = .next t) ∧ QueueOk lawful :=
  ⟨lawful_tables.1, lawful_queues.1⟩

theorem test_StepKeepsReaderLines_met : (∃ t, step lawful = .next t) ∧ ∀ rl, (lawful.reader rl).ok :=
  ⟨lawful_tables.1, lawful_queues.2.1⟩

theorem test_StepKeepsAlertList_met : (∃ t, step lawful = .next t) ∧ LoadingOk lawful ∧ AlertsOk lawful :=
  ⟨lawful_tables.1, lawful_tables.2.2.2.1, lawful_queues.2.2.1⟩

theorem test_StepKeepsPorts_met : (∃ t, step lawful = .next t) ∧ PortsOk lawful :=
  ⟨lawful_tables.1, lawful_queues.2.2.2.1⟩

theorem test_StepKeepsDays_met : (∃ t, step lawful = .next t) ∧ DayOk lawful :=
  ⟨lawful_tables.1, lawful_queues.2.2.2.2⟩

/-- The hypotheses of the round trip of an image hold in that state. -/
theorem test_SavedImageLoadsBack_met :
    (LabMapOk lawful ∧ AimsOk lawful ∧ BindingOk lawful ∧ LotsOk lawful) ∧ (∀ n c, lawful.line n = some c → 1 ≤ c.lab ∧ c.lab ≤ 65534) ∧
    ∀ k l, lawful.lot k = some l → 1 ≤ l.code ∧ l.code ≤ 4294967295 ∧
      ∀ v, -4000 ≤ l.refs.get v ∧ l.refs.get v ≤ 4000 ∧ -500 ≤ l.active.get v ∧ l.active.get v ≤ 500 := by
  refine ⟨⟨lawful_tables.2.2.2.2.1, lawful_tables.2.2.2.2.2.2.1, lawful_tables.2.2.2.2.2.1, lawful_tables.2.2.2.2.2.2.2⟩,
    fun n c h => ?_, fun k l h => ?_⟩
  · obtain ⟨_, rfl⟩ := lawful_line n c h
    decide
  · obtain ⟨_, rfl⟩ := lawful_lot k l h
    decide +kernel

/-- While the store loads, the tables are fresh. -/
theorem test_StepKeepsLoadingFresh_met :
    ∃ s t : State, step s = .next t ∧ LoadingOk s ∧ s.store.loading = true :=
  ⟨{ State.reset with pending := [.headReadyChange 0] }, _, rfl,
   fun _ => ⟨rfl, rfl, rfl, rfl, rfl, rfl, rfl, rfl, rfl⟩, rfl⟩

/-! ### One step of some events -/

/-- HOLD of the desk with the lease 0 gives 10 minutes (R162). -/
theorem test_hold_defaultLease :
    ∃ t, exec (.hold .mp0) (on up .hold [4, 0, 0] none) = .next t ∧ t.holds = [⟨.desk, .mp0, 10⟩] ∧
      t.mp0.response = some ⟨.ok, 0x50, [10]⟩ := ⟨_, rfl, by decide, by decide⟩

/-- A request with an empty queue begins the pass at once, and day 1 closes (R121, R124). -/
theorem test_closeDay_first :
    ∃ t, exec (.closeDay .mp0) (on up .closeDay [] none) = .next t ∧ t.day.number = 2 ∧
      t.day.state = .closing (.consensus 0) ∧ t.mp0.response = some ⟨.ok, 0x40, [0, 1]⟩ := ⟨_, rfl, by decide⟩

/-- The first strip of day 2 takes the point count of its line to 1 and the line has no alert while its values are
inside (R52). -/
theorem test_take_first :
    ∃ t, exec .evaluationTake
        { inDay (lab (film .active) { lot7 .current with refs := Table.ofFn fun v => if v.val % 4 = 0 ∨ v.val % 4 = 3 then 100 else 0 })
          .dayOpen with queue := [⟨strip, 2⟩] } = .next t ∧ t.queue = [] ∧
      (t.line 0).map (fun c => (c.epochPoints, c.ring.map Point.day)) = some (1, [2]) ∧ t.alerts = [] :=
  ⟨_, rfl, by decide +kernel⟩

/-- A blank memory does not load (R175). -/
theorem test_blankHeader :
    ∃ t, exec .headerReadComplete State.reset = .next t ∧ t.store.outcome = .loadFailed .badHeader ∧
      t.mp0.storeFlag = true := ⟨_, rfl, by decide +kernel⟩

end Sys2Proof.Tests
end

-- ==== CLEAR-READER-FAULTS (02 R33) ====
section
/-! PROOFS. CLEAR-READER-FAULTS: how its one parameter byte names a line, what it does to the record of that line, and
its two answers (02 R33, 09 R159). -/
namespace Sys2Proof.Machine

/-! ### The parameter byte -/

/-- A byte is the one laid out from its own number. -/
theorem byte_of_toNat {a : Byte} {n : Nat} (h : a.toNat = n) : byte n = a := by
  simp [byte, ← h]

/-- A byte that reads as a number below `k` names it. -/
theorem parseIndex_of_toNat {k : Nat} (hk : k ≤ 256) {a : Byte} {n : Fin k} (h : a.toNat = n.val) :
    parseIndex k [a] = .ok n := by
  rw [← byte_of_toNat h, parseIndex_byte hk]

/-! ### The command -/

/-- A reader line with its fault count at 0: the last fault of the record and the rest of the line stay (R33). -/
theorem clearFaultsAct_eq (rl : Fin 4) (s : State) :
    clearFaultsAct rl s =
      .done (s.setReader rl { s.reader rl with fault := { (s.reader rl).fault with count := 0 } }) .ok [] := rfl

/-- The row of CLEAR-READER-FAULTS carries out the command that names one of the four lines and no held item. -/
theorem exec_clearReaderFaults (p : Port) (s : State) :
    exec (.clearReaderFaults p) s =
      .next (runCommand .clearReaderFaults p s (parseIndex 4) noItem clearFaultsAct) := rfl

variable {p : Port} {a : Byte} {s : State}

/-- No line has the number: step 3 of R159 refuses it, before the store, the level and the holds are looked at. -/
theorem exec_clearReaderFaults_outside (hx : s.executes p .clearReaderFaults [a]) (ha : 4 ≤ a.toNat) :
    exec (.clearReaderFaults p) s = .next (s.answer p Command.clearReaderFaults.code .badParam []) := by
  rw [exec_clearReaderFaults, runCommand_parse hx rfl (parseIndex_outside ha)]

/-- The number of a line, with steps 4 to 7 of R159 passed: its count is cleared and the command answers OK. -/
theorem exec_clearReaderFaults_clears {rl : Fin 4} (hx : s.executes p .clearReaderFaults [a])
    (ha : a.toNat = rl.val) (hok : s.permits p .clearReaderFaults none) :
    exec (.clearReaderFaults p) s =
      .next ((s.setReader rl { s.reader rl with fault := { (s.reader rl).fault with count := 0 } }).answer p
        Command.clearReaderFaults.code .ok []) := by
  have hp : parseIndex 4 [a] = .ok rl := parseIndex_of_toNat (by decide) ha
  rw [exec_clearReaderFaults, runCommand_go hx rfl hp hok, clearFaultsAct_eq]

/-- Settles O11: the two answers of R33, by the number that the parameter byte carries. -/
theorem clearReaderFaults : Obligations.ClearReaderFaults := by
  intro p a s hx
  exact ⟨exec_clearReaderFaults_outside hx, fun _ ha hok => exec_clearReaderFaults_clears hx ha hok⟩

end Sys2Proof.Machine
end

-- ==== ENROLL-LINE (04 R64) ====
section
/-! PROOFS. ENROLL-LINE: how its four parameter bytes are read, which UNUSED line it takes, the order of its own checks,
and its answers (04 R64, 09 R159). -/
namespace Sys2Proof.Machine

/-! ### The parameter bytes -/

/-- A byte that reads as a number below `k` names it. -/
theorem indexOf_of_toNat {k : Nat} (hk : k ≤ 256) {a : Byte} {n : Fin k} (h : a.toNat = n.val) :
    indexOf k a = some n := by
  rw [← byte_of_toNat h, indexOf_byte hk]

/-- A byte that reads as `k` or more names no number below `k`. -/
theorem indexOf_outside {k : Nat} {a : Byte} (h : k ≤ a.toNat) : indexOf k a = none := by
  simp [indexOf, Nat.not_lt.mpr h]

/-- The lab ids are the numbers from 1 to 65534 (R62). -/
theorem labOk_iff {lab : Nat} : labOk lab = true ↔ 1 ≤ lab ∧ lab ≤ 65534 := by
  simp [labOk]

section
variable {a b q m : Byte}

/-- The range checks on the lab id and the aim set number come before the process kind (R64). -/
theorem parseEnroll_range (h : nat16 a b = 0 ∨ nat16 a b = 65535 ∨ 16 ≤ m.toNat) :
    parseEnroll [a, b, q, m] = .error .range := by
  cases hlab : labOk (nat16 a b) with
  | false => simp [parseEnroll, hlab, check, bind, Except.bind]
  | true =>
    obtain ⟨hlow, hhigh⟩ := labOk_iff.mp hlab
    have hm : indexOf 16 m = none := indexOf_outside (by omega)
    simp [parseEnroll, hlab, hm, check, need, bind, Except.bind]

section
variable {k : Fin 16} (hlow : 1 ≤ nat16 a b) (hhigh : nat16 a b ≤ 65534) (hm : m.toNat = k.val)
include hlow hhigh hm

/-- With the lab id and the aim set number in range, the process kind code decides. -/
theorem parseEnroll_inRange :
    parseEnroll [a, b, q, m] = (need (kindOf q) .badParam).map fun kind => (nat16 a b, kind, k) := by
  have hlab : labOk (nat16 a b) = true := labOk_iff.mpr ⟨hlow, hhigh⟩
  have hk : indexOf 16 m = some k := indexOf_of_toNat (by decide) hm
  cases hq : kindOf q <;> simp [parseEnroll, hlab, hk, hq, check, need, bind, Except.bind, Except.map]

theorem parseEnroll_noKind (hq : kindOf q = none) : parseEnroll [a, b, q, m] = .error .badParam := by
  rw [parseEnroll_inRange hlow hhigh hm, hq]; rfl

theorem parseEnroll_ok {kind : ProcessKind} (hq : kindOf q = some kind) :
    parseEnroll [a, b, q, m] = .ok (nat16 a b, kind, k) := by
  rw [parseEnroll_inRange hlow hhigh hm, hq]; rfl
end
end

/-! ### The UNUSED lines -/

section
variable {s : State} {p : Port}

theorem mem_unusedLines {n : Fin 96} : n ∈ s.unusedLines ↔ s.line n = none := by
  simp [State.unusedLines]

theorem unusedLines_eq_nil (h : ∀ n, s.line n ≠ none) : s.unusedLines = [] :=
  List.eq_nil_iff_forall_not_mem.mpr fun n hn => h n (mem_unusedLines.mp hn)

theorem unusedLines_ne_nil {n : Fin 96} (h : s.line n = none) : s.unusedLines ≠ [] :=
  List.ne_nil_of_mem (mem_unusedLines.mpr h)

/-- A line is free to a port when it is UNUSED and not held by the other port (R64). -/
def State.freeTo (s : State) (p : Port) (n : Fin 96) : Prop :=
  s.line n = none ∧ s.holder (.line n) ≠ some (otherPort p)

/-- The search of ENROLL-LINE finds nothing exactly when the other port holds every UNUSED line. -/
theorem find?_unusedLines_eq_none :
    (s.unusedLines.find? fun n => !s.heldByOther p (.line n)) = none ↔
      ∀ n, s.line n = none → s.holder (.line n) = some (otherPort p) := by
  simp [mem_unusedLines, State.heldByOther]

/-- What the search of ENROLL-LINE finds is the lowest line that is free to the port. -/
theorem find?_unusedLines_eq_some {n : Fin 96} :
    (s.unusedLines.find? fun n => !s.heldByOther p (.line n)) = some n ↔
      s.freeTo p n ∧ ∀ j, j < n → ¬ s.freeTo p j := by
  rw [State.unusedLines, List.find?_filter, ← Fin.find?_eq_find?_finRange, Fin.find?_eq_some_iff]
  simp [State.freeTo, State.heldByOther]
end

/-! ### The checks of R64 in their order -/

section
variable {s : State} {p : Port} {lab : Nat} {kind : ProcessKind} {k : Fin 16}

theorem enrollLineAct_duplicate (hkey : s.findLine lab kind ≠ none) :
    enrollLineAct p lab kind k s = .refuse .duplicate := by
  simp [enrollLineAct, Option.isSome_iff_ne_none, hkey]

variable (hkey : s.findLine lab kind = none)
include hkey

theorem enrollLineAct_wrongKind (hkind : (s.aim k).kind ≠ kind) : enrollLineAct p lab kind k s = .refuse .state := by
  simp [enrollLineAct, hkey, hkind]

variable (hkind : (s.aim k).kind = kind)
include hkind

theorem enrollLineAct_full (hused : ∀ n, s.line n ≠ none) : enrollLineAct p lab kind k s = .refuse .full := by
  simp [enrollLineAct, hkey, hkind, unusedLines_eq_nil hused]

theorem enrollLineAct_held {j : Fin 96} (hj : s.line j = none)
    (hheld : ∀ n, s.line n = none → s.holder (.line n) = some (otherPort p)) :
    enrollLineAct p lab kind k s = .refuse .held := by
  simp [enrollLineAct, hkey, hkind, unusedLines_ne_nil hj, find?_unusedLines_eq_none.mpr hheld]

theorem enrollLineAct_takes {n : Fin 96} (hfree : s.freeTo p n) (hlowest : ∀ j, j < n → ¬ s.freeTo p j) :
    enrollLineAct p lab kind k s = .done (s.enrol n lab kind k) .ok [byte n.val] := by
  have ⟨hunused, _⟩ := hfree
  simp [enrollLineAct, hkey, hkind, unusedLines_ne_nil hunused, find?_unusedLines_eq_some.mpr ⟨hfree, hlowest⟩]
end

/-! ### The command -/

/-- The row of ENROLL-LINE carries out the command, which names no held item. -/
theorem exec_enrollLine (p : Port) (s : State) :
    exec (.enrollLine p) s =
      .next (runCommand .enrollLine p s parseEnroll noItem fun x => enrollLineAct p x.1 x.2.1 x.2.2) := rfl

/-- Protection level 3 is the first check to fail when the store is idle (R64, R168). -/
theorem commonRefusal_enrollLine_locked {s : State} {p : Port} {item : Option Item} (hload : s.store.loading = false)
    (hsave : s.store.isSaving = false) (hlevel : 3 ≤ s.level) :
    commonRefusal s p .enrollLine item = some .locked := by
  simp [commonRefusal, hload, hsave, Command.locked, hlevel]

section
variable {s : State} {p : Port} {a b q m : Byte} (hx : s.executes p .enrollLine [a, b, q, m])
include hx

/-- Parameter bytes that the reader refuses are answered with its status. -/
theorem exec_enrollLine_parse {st : Status} (hp : parseEnroll [a, b, q, m] = .error st) :
    exec (.enrollLine p) s = .next (s.answer p Command.enrollLine.code st []) := by
  rw [exec_enrollLine, runCommand_parse hx rfl hp]

variable {lab : Nat} {kind : ProcessKind} {k : Fin 16} (hp : parseEnroll [a, b, q, m] = .ok (lab, kind, k))
include hp

theorem exec_enrollLine_locked (hload : s.store.loading = false) (hsave : s.store.isSaving = false)
    (hlevel : 3 ≤ s.level) : exec (.enrollLine p) s = .next (s.answer p Command.enrollLine.code .locked []) := by
  rw [exec_enrollLine, runCommand_common hx rfl hp (commonRefusal_enrollLine_locked hload hsave hlevel)]

variable (hok : s.permits p .enrollLine none)
include hok

theorem exec_enrollLine_refuse {st : Status} (hact : enrollLineAct p lab kind k s = .refuse st) :
    exec (.enrollLine p) s = .next (s.answer p Command.enrollLine.code st []) := by
  rw [exec_enrollLine, runCommand_go hx rfl hp hok, hact]

theorem exec_enrollLine_done {s' : State} {st : Status} {data : List Byte}
    (hact : enrollLineAct p lab kind k s = .done s' st data) :
    exec (.enrollLine p) s = .next (s'.answer p Command.enrollLine.code st data) := by
  rw [exec_enrollLine, runCommand_go hx rfl hp hok, hact]
end

/-- Settles O26: the parameter bytes decide first, then the protection level, then the checks of R64 in their order. -/
theorem enrollLine : Obligations.EnrollLine := by
  intro s p a b q m hx answers
  refine ⟨fun _ hrange => exec_enrollLine_parse hx (parseEnroll_range hrange), ?_, ?_⟩
  · intro hlow hhigh hm hq
    exact exec_enrollLine_parse hx (parseEnroll_noKind (k := ⟨m.toNat, hm⟩) hlow hhigh rfl hq)
  · intro kind k hlow hhigh hq hm
    have hp := parseEnroll_ok hlow hhigh hm hq
    refine ⟨exec_enrollLine_locked hx hp, fun hok => ⟨?duplicate, ?state, ?full, ?held, ?takes⟩⟩
    case duplicate => exact fun hkey => exec_enrollLine_refuse hx hp hok (enrollLineAct_duplicate hkey)
    case state =>
      exact fun hkey hkind => exec_enrollLine_refuse hx hp hok (enrollLineAct_wrongKind hkey hkind)
    case full =>
      exact fun hkey hkind hused => exec_enrollLine_refuse hx hp hok (enrollLineAct_full hkey hkind hused)
    case held =>
      exact fun hkey hkind ⟨_, hj⟩ hheld =>
        exec_enrollLine_refuse hx hp hok (enrollLineAct_held hkey hkind hj hheld)
    case takes =>
      intro n hkey hkind hn hfree hlowest
      exact exec_enrollLine_done hx hp hok
        (enrollLineAct_takes hkey hkind ⟨hn, hfree⟩ fun j hj ⟨hnone, hnot⟩ => hnot (hlowest j hj hnone))

end Sys2Proof.Machine
end

-- ==== What each row leaves as it was ====
section
/-! PROOFS. The frame of every row of the command table: the parts of the state a row can write, and that it leaves every
other part as it was. Every law of the state is proved from it, since only the rows that write a part that the law speaks
of are then left to look at. -/
namespace Sys2Proof.Machine

/-! ### Parts of the state -/

/-- The parts of the state a frame speaks of. `lines` and `lots` are the tables without their waiting kinds, `waiting` the
waiting kinds of both, and `ports` the two management ports. -/
inductive Part where
  | readers | heldOrder | queue | drain | labMap | lines | aims | lots | waiting | day | alerts | serials | ports
  | holds | level | store | memory | freeCount | pending
  deriving DecidableEq

/-- The lines without their waiting kinds. -/
def State.bareLines (s : State) : Table (Option LineCtx) 96 := s.lines.map (Option.map LineCtx.unwaited)

/-- The slots without their waiting kinds. -/
def State.bareLots (s : State) : Table (Option Lot) 16 := s.lots.map (Option.map Lot.unwaited)

/-- The waiting kinds of the lines, none for an UNUSED one. -/
def State.lineWaits (s : State) : Table (Option (Table (Option AlertKind) 13)) 96 := s.lines.map (Option.map LineCtx.waiting)

/-- The waiting kinds of the slots, none for an EMPTY one. -/
def State.lotWaits (s : State) : Table (Option (Table (Option AlertKind) 12)) 16 := s.lots.map (Option.map Lot.waiting)

/-- State `t` has every part of `s` but those named in `ws`. -/
structure Frame (ws : List Part) (s t : State) : Prop where
  readers : ws.contains .readers = false → t.readers = s.readers
  heldOrder : ws.contains .heldOrder = false → t.heldOrder = s.heldOrder
  queue : ws.contains .queue = false → t.queue = s.queue
  drain : ws.contains .drain = false → t.drain = s.drain
  labMap : ws.contains .labMap = false → t.labMap = s.labMap
  bareLines : ws.contains .lines = false → t.bareLines = s.bareLines
  aims : ws.contains .aims = false → t.aims = s.aims
  bareLots : ws.contains .lots = false → t.bareLots = s.bareLots
  lineWaits : ws.contains .waiting = false → t.lineWaits = s.lineWaits
  lotWaits : ws.contains .waiting = false → t.lotWaits = s.lotWaits
  day : ws.contains .day = false → t.day = s.day
  alerts : ws.contains .alerts = false → t.alerts = s.alerts
  serials : ws.contains .serials = false → t.serials = s.serials
  mp0 : ws.contains .ports = false → t.mp0 = s.mp0
  mp1 : ws.contains .ports = false → t.mp1 = s.mp1
  holds : ws.contains .holds = false → t.holds = s.holds
  level : ws.contains .level = false → t.level = s.level
  store : ws.contains .store = false → t.store = s.store
  memory : ws.contains .memory = false → t.memory = s.memory
  freeCount : ws.contains .freeCount = false → t.freeCount = s.freeCount
  pending : ws.contains .pending = false → t.pending = s.pending

/-- State `s` with the parts named in `ws` taken from `t`; a table changes when its items and their waiting kinds do. -/
def State.patch (s : State) (ws : List Part) (t : State) : State :=
  { readers := bif ws.contains .readers then t.readers else s.readers
    heldOrder := bif ws.contains .heldOrder then t.heldOrder else s.heldOrder
    queue := bif ws.contains .queue then t.queue else s.queue
    drain := bif ws.contains .drain then t.drain else s.drain
    labMap := bif ws.contains .labMap then t.labMap else s.labMap
    lines := bif ws.contains .lines && ws.contains .waiting then t.lines else s.lines
    aims := bif ws.contains .aims then t.aims else s.aims
    lots := bif ws.contains .lots && ws.contains .waiting then t.lots else s.lots
    day := bif ws.contains .day then t.day else s.day
    alerts := bif ws.contains .alerts then t.alerts else s.alerts
    serials := bif ws.contains .serials then t.serials else s.serials
    mp0 := bif ws.contains .ports then t.mp0 else s.mp0
    mp1 := bif ws.contains .ports then t.mp1 else s.mp1
    holds := bif ws.contains .holds then t.holds else s.holds
    level := bif ws.contains .level then t.level else s.level
    store := bif ws.contains .store then t.store else s.store
    memory := bif ws.contains .memory then t.memory else s.memory
    freeCount := bif ws.contains .freeCount then t.freeCount else s.freeCount
    pending := bif ws.contains .pending then t.pending else s.pending }

/-- A line is its context without the waiting kinds, and these. -/
theorem line_ext {a b : Option LineCtx} (hbare : a.map LineCtx.unwaited = b.map LineCtx.unwaited)
    (hwait : a.map LineCtx.waiting = b.map LineCtx.waiting) : a = b := by
  cases a with
  | none => cases b <;> simp_all
  | some a =>
    cases b with
    | none => simp at hbare
    | some b => cases a; cases b; simp_all [LineCtx.unwaited]

/-- A slot is its lot without the waiting kinds, and these. -/
theorem lot_ext {a b : Option Lot} (hbare : a.map Lot.unwaited = b.map Lot.unwaited)
    (hwait : a.map Lot.waiting = b.map Lot.waiting) : a = b := by
  cases a with
  | none => cases b <;> simp_all
  | some a =>
    cases b with
    | none => simp at hbare
    | some b => cases a; cases b; simp_all [Lot.unwaited]

namespace Frame
variable {ws vs : List Part} {s t u : State}

/-- A state that is `s` with some parts taken from elsewhere has every other part of `s`. -/
theorem of_patch (h : t = s.patch ws t) : Frame ws s t := by
  rw [h]
  constructor <;> intro hw <;>
    simp only [State.patch, State.bareLines, State.bareLots, State.lineWaits, State.lotWaits, hw, cond_false,
      Bool.false_and, Bool.and_false]

theorem refl : Frame ws s s := by constructor <;> intro _ <;> rfl

theorem trans (h : Frame ws s t) (k : Frame ws t u) : Frame ws s u := by
  constructor <;> intro hw
  exacts [(k.readers hw).trans (h.readers hw), (k.heldOrder hw).trans (h.heldOrder hw), (k.queue hw).trans (h.queue hw),
    (k.drain hw).trans (h.drain hw), (k.labMap hw).trans (h.labMap hw), (k.bareLines hw).trans (h.bareLines hw),
    (k.aims hw).trans (h.aims hw), (k.bareLots hw).trans (h.bareLots hw), (k.lineWaits hw).trans (h.lineWaits hw),
    (k.lotWaits hw).trans (h.lotWaits hw), (k.day hw).trans (h.day hw), (k.alerts hw).trans (h.alerts hw),
    (k.serials hw).trans (h.serials hw), (k.mp0 hw).trans (h.mp0 hw), (k.mp1 hw).trans (h.mp1 hw),
    (k.holds hw).trans (h.holds hw), (k.level hw).trans (h.level hw), (k.store hw).trans (h.store hw),
    (k.memory hw).trans (h.memory hw), (k.freeCount hw).trans (h.freeCount hw), (k.pending hw).trans (h.pending hw)]

/-- A frame that allows fewer writes is one that allows more. -/
theorem mono (h : Frame vs s t) (hsub : ∀ x, ws.contains x = false → vs.contains x = false) : Frame ws s t := by
  constructor <;> intro hw
  exacts [h.readers (hsub _ hw), h.heldOrder (hsub _ hw), h.queue (hsub _ hw), h.drain (hsub _ hw), h.labMap (hsub _ hw),
    h.bareLines (hsub _ hw), h.aims (hsub _ hw), h.bareLots (hsub _ hw), h.lineWaits (hsub _ hw), h.lotWaits (hsub _ hw),
    h.day (hsub _ hw), h.alerts (hsub _ hw), h.serials (hsub _ hw), h.mp0 (hsub _ hw), h.mp1 (hsub _ hw),
    h.holds (hsub _ hw), h.level (hsub _ hw), h.store (hsub _ hw), h.memory (hsub _ hw), h.freeCount (hsub _ hw),
    h.pending (hsub _ hw)]

/-- Weakening along an inclusion of lists, which is decided. -/
theorem sub (h : Frame vs s t) (hsub : vs ⊆ ws) : Frame ws s t :=
  h.mono fun x hx => by
    simp only [List.contains_eq_mem, decide_eq_false_iff_not] at hx ⊢
    exact fun hv => hx (hsub hv)

/-- A line whose waiting kinds stay is a change of the lines alone. -/
theorem setLine {n : Fin 96} {c c' : LineCtx} (hc : s.line n = some c) (hw : c'.waiting = c.waiting) :
    Frame [.lines] s (s.setLine n (some c')) := by
  have hl : (s.setLine n (some c')).lineWaits = s.lineWaits :=
    Table.map_set_same _ _ _ _ (by rw [show s.lines.get n = some c from hc]; simp [hw])
  constructor <;> intro h
  all_goals first | rfl | exact hl | exact absurd h (by decide)

/-- A slot whose waiting kinds stay is a change of the slots alone. -/
theorem setLot {k : Fin 16} {l l' : Lot} (hl : s.lot k = some l) (hw : l'.waiting = l.waiting) :
    Frame [.lots] s (s.setLot k (some l')) := by
  have hl : (s.setLot k (some l')).lotWaits = s.lotWaits :=
    Table.map_set_same _ _ _ _ (by rw [show s.lots.get k = some l from hl]; simp [hw])
  constructor <;> intro h
  all_goals first | rfl | exact hl | exact absurd h (by decide)

theorem setPort (p : Port) (v : PortUnit) : Frame [.ports] s (s.setPort p v) := by
  cases p <;> exact of_patch rfl

theorem answer (p : Port) (code : Byte) (st : Status) (data : List Byte) :
    Frame [.ports] s (s.answer p code st data) := setPort p _

/-- States that differ in their alerts alone. -/
theorem of_quiet (h : t.quiet = s.quiet) : Frame [.waiting, .alerts, .serials] s t := by
  obtain ⟨h1, h2, h3, h4, h5, h6, h7, h8, h9, h10, h11, h12, h13, h14, h15, h16, h17⟩ := State.quiet_fields h
  constructor <;> intro hw
  case bareLines => exact Table.ext fun n => (Table.get_map ..).trans ((h16 n).trans (Table.get_map ..).symm)
  case bareLots => exact Table.ext fun k => (Table.get_map ..).trans ((h17 k).trans (Table.get_map ..).symm)
  all_goals first | assumption | exact absurd hw (by decide)

/-- Lines that stay with their waiting kinds stay whole. -/
theorem lines (h : Frame ws s t) (hl : ws.contains .lines = false) (hw : ws.contains .waiting = false) :
    t.lines = s.lines := by
  apply Table.ext; intro n
  have h1 := congrArg (fun x => x.get n) (h.bareLines hl)
  have h2 := congrArg (fun x => x.get n) (h.lineWaits hw)
  simp only [State.bareLines, State.lineWaits, Table.get_map] at h1 h2
  exact line_ext h1 h2

/-- Slots that stay with their waiting kinds stay whole. -/
theorem lots (h : Frame ws s t) (hl : ws.contains .lots = false) (hw : ws.contains .waiting = false) :
    t.lots = s.lots := by
  apply Table.ext; intro k
  have h1 := congrArg (fun x => x.get k) (h.bareLots hl)
  have h2 := congrArg (fun x => x.get k) (h.lotWaits hw)
  simp only [State.bareLots, State.lotWaits, Table.get_map] at h1 h2
  exact lot_ext h1 h2
end Frame

end Sys2Proof.Machine
end

-- ==== What each command's act can do ====
section
/-! PROOFS. One inversion lemma for each command: when its act is carried out, the checks that have passed and the state it
leaves. -/
namespace Sys2Proof.Machine

section
variable {s s' : State} {p : Port} {st : Status} {d : List Byte}

/-! ### Lines -/

theorem enrollLineAct_done {lab : Nat} {kind : ProcessKind} {k : Fin 16}
    (h : enrollLineAct p lab kind k s = .done s' st d) :
    ∃ n, s.findLine lab kind = none ∧ (s.aim k).kind = kind ∧ s.line n = none ∧ s' = s.enrol n lab kind k := by
  unfold enrollLineAct at h
  split at h
  · cases h
  · rename_i hkey
    split at h
    · cases h
    · rename_i hkind
      repeat' split at h
      · cases h
      · cases h
      · rename_i n hn
        cases h
        exact ⟨n, by simpa using hkey, not_not.mp hkind, mem_unusedLines.mp (List.mem_of_find?_eq_some hn), rfl⟩

theorem suspendLineAct_done {n : Fin 96} (h : suspendLineAct n s = .done s' st d) :
    ∃ c, s.line n = some c ∧ s' = s.setLine n (some { c with state := .suspended }) := by
  unfold suspendLineAct at h
  repeat' split at h
  all_goals cases h
  exact ⟨_, ‹_›, rfl⟩

theorem resumeLineAct_done {n : Fin 96} (h : resumeLineAct n s = .done s' st d) :
    ∃ c, s.line n = some c ∧ s' = s.setLine n (some c.resumed) := by
  unfold resumeLineAct at h
  repeat' split at h
  all_goals cases h
  exact ⟨_, ‹_›, rfl⟩

theorem withdrawLineAct_done {n : Fin 96} (h : withdrawLineAct n s = .done s' st d) :
    ∃ c, s.line n = some c ∧ s' = s.withdraw n c := by
  unfold withdrawLineAct at h
  repeat' split at h
  all_goals cases h
  exact ⟨_, ‹_›, rfl⟩

theorem setLineAimAct_done {n : Fin 96} {k : Fin 16} (h : setLineAimAct n k s = .done s' st d) :
    ∃ c, s.line n = some c ∧ c.kind = (s.aim k).kind ∧ s' = s.setLine n (some { c with aim := k }) := by
  unfold setLineAimAct at h
  repeat' split at h
  all_goals cases h
  rename_i c hc hk
  exact ⟨c, hc, not_not.mp hk, rfl⟩

theorem chemEventAct_done {n : Fin 96} {mix : Bool} (h : chemEventAct p n mix s = .done s' st d) :
    ∃ c, s.line n = some c ∧ s' = s.setLine n (some (c.chem mix)) := by
  unfold chemEventAct at h
  repeat' split at h
  all_goals cases h
  exact ⟨_, ‹_›, rfl⟩

theorem voidPointAct_done {n : Fin 96} {day : Nat} (h : voidPointAct n day s = .done s' st d) :
    ∃ c pt, s.line n = some c ∧ ringAt c.ring day = some pt ∧
      s' = s.setLine n (some { c with ring := ringReplace c.ring { pt with state := .void } }) := by
  unfold voidPointAct at h
  repeat' split at h
  all_goals cases h
  rename_i c hc _ pt hpt _
  exact ⟨c, pt, hc, hpt, rfl⟩

/-! ### Aim sets -/

theorem writeAimAct_done {k : Fin 16} {v : Fin 12} {x : ValueAim} (h : writeAimAct k v x s = .done s' st d) :
    ((s.aim k).target.putValue v x).valid = true ∧
      s' = s.setAim k ((s.aim k).edit fun q => q.putValue v x) := by
  unfold writeAimAct at h
  split at h <;> cases h
  exact ⟨‹_›, rfl⟩

theorem writeAimRulesAct_done {x : AimRules} (h : writeAimRulesAct x s = .done s' st d) :
    ((s.aim x.set).target.putRules x.run x.slope x.settling).valid = true ∧
      ((s.aim x.set).kind = x.kind ∨ s.linesNaming x.set = 0) ∧
      s' = s.setAim x.set
        { (s.aim x.set).edit (fun q => q.putRules x.run x.slope x.settling) with kind := x.kind } := by
  unfold writeAimRulesAct at h
  split at h
  · split at h <;> cases h
    rename_i hv hk
    exact ⟨hv, by by_cases e : (s.aim x.set).kind = x.kind <;> simp_all, rfl⟩
  · cases h

/-! ### Lots -/

theorem defineLotAct_done {x : LotOperands} (h : defineLotAct x s = .done s' st d) :
    s.lot x.slot = none ∧ s.findLot x.code = none ∧
      s' = s.setLot x.slot (some (Lot.fresh x.code x.kind x.refs)) := by
  unfold defineLotAct at h
  repeat' split at h
  all_goals cases h
  rename_i h1 h2
  exact ⟨by simpa using h1, by simpa using h2, rfl⟩

theorem makeCurrentAct_done {k : Fin 16} (h : makeCurrentAct p k s = .done s' st d) :
    ∃ l, s.lot k = some l ∧ l.state = .defined ∧
      (s.currentOf l.kind = none ∧ s' = s.setLot k (some (l.into .current)) ∨
        ∃ j m, s.currentOf l.kind = some (j, m) ∧
          s' = (s.setLot j (some (m.into (.retiring s.day.desk.crossoverDays)))).setLot k (some (l.into .current))) := by
  unfold makeCurrentAct at h
  split at h
  · cases h
  · rename_i l hl
    split at h
    · cases h
    · rename_i hst
      refine ⟨l, hl, not_not.mp hst, ?_⟩
      split at h
      · cases h; exact .inl ⟨‹_›, rfl⟩
      · split at h <;> cases h
        exact .inr ⟨_, _, ‹_›, rfl⟩

theorem retireLotAct_done {k : Fin 16} (h : retireLotAct k s = .done s' st d) :
    ∃ l, s.lot k = some l ∧ s' = s.setLot k (some (l.into .retired)) := by
  unfold retireLotAct at h
  repeat' split at h
  all_goals cases h
  exact ⟨_, ‹_›, rfl⟩

theorem clearLotAct_done {k : Fin 16} (h : clearLotAct k s = .done s' st d) :
    ∃ l, s.lot k = some l ∧ s' = (s.dropLotAlerts k l).setLot k none := by
  unfold clearLotAct at h
  repeat' split at h
  all_goals cases h
  exact ⟨_, ‹_›, rfl⟩

theorem writeCorrectionAct_done {k : Fin 16} {v : Fin 12} {x : Int} (h : writeCorrectionAct k v x s = .done s' st d) :
    ∃ l, s.lot k = some l ∧ s' = s.setLot k (some { l with pending := l.pending.set v x }) := by
  unfold writeCorrectionAct at h
  repeat' split at h
  all_goals cases h
  exact ⟨_, ‹_›, rfl⟩

theorem adoptProposalAct_done {k : Fin 16} (h : adoptProposalAct k s = .done s' st d) :
    ∃ l q, s.lot k = some l ∧ s' = s.setLot k (some { l with pending := q, proposal := none }) := by
  unfold adoptProposalAct at h
  repeat' split at h
  all_goals cases h
  exact ⟨_, _, ‹_›, rfl⟩

/-! ### The day, the holds and the store -/

theorem closeDayAct_done (h : closeDayAct p s = .done s' st d) :
    s.day.state = .dayOpen ∧ s.day.number < Config.lastDay ∧ s' = s.takeRequest (.port p) := by
  unfold closeDayAct at h
  repeat' split at h
  all_goals cases h
  exact ⟨not_not.mp ‹¬ s.day.state ≠ .dayOpen›, Nat.not_le.mp ‹_›, rfl⟩

theorem holdAct_done {i : Item} {lease : Nat} (h : holdAct p i lease s = .done s' st d) :
    (s.holder i = none ∧ s.holds.length < Config.holdDepth ∧ s' = { s with holds := s.holds ++ [⟨i, p, lease⟩] }) ∨
      s' = { s with holds := setLease s.holds i lease } := by
  unfold holdAct at h
  repeat' split at h
  all_goals cases h
  · exact .inl ⟨‹_›, ‹_›, rfl⟩
  · exact .inr rfl

theorem renewAct_done {i : Item} {lease : Nat} (h : renewAct p i lease s = .done s' st d) :
    s' = { s with holds := setLease s.holds i lease } := by
  unfold renewAct at h
  repeat' split at h
  all_goals cases h
  rfl

theorem releaseAct_done {i : Item} (h : releaseAct p i s = .done s' st d) :
    s' = { s with holds := freeItem s.holds i } := by
  unfold releaseAct at h
  repeat' split at h
  all_goals cases h
  rfl

theorem saveImageAct_done (h : saveImageAct s = .done s' st d) :
    s.day.state = .dayOpen ∧ s.store.phase = .idle ∧
      s' = { s with store := { s.store with phase := .saving s.body, writes := 0 }
                    freeCount := s.freeCount + lineSection } := by
  unfold saveImageAct at h
  split at h <;> cases h
  rename_i hc
  exact ⟨hc.1, hc.2, rfl⟩

theorem setLockAct_done {level : Nat} (h : setLockAct level s = .done s' st d) :
    s.level < level ∧ s' = { s with level := level, aims := s.aims.map AimSet.discard } := by
  unfold setLockAct at h
  split at h <;> cases h
  exact ⟨Nat.not_le.mp ‹_›, rfl⟩

/-! ### Readers, alerts and attention -/

theorem testReaderAct_done {rl : Fin 4} (h : testReaderAct rl s = .done s' st d) :
    (s.reader rl).inLoop = true ∧
      s' = s.setReader rl
        (let queued := { s.reader rl with test := .running, testSender := (s.reader rl).testSender ++ testFrame }
         if (s.reader rl).sending.isNone then queued.nextTest else queued) := by
  unfold testReaderAct at h
  dsimp only at h
  split at h
  · cases h
  · rename_i hl
    split at h <;> cases h
    exact ⟨by simpa using hl, rfl⟩

theorem nextAlertAct_done (h : nextAlertAct p s = .done s' st d) : s' = s := by
  unfold nextAlertAct at h
  split at h <;> cases h <;> rfl

theorem ackAlertAct_done {number : Fin 32} {serial : BitVec 8} (h : ackAlertAct p number serial s = .done s' st d) :
    ∃ e, (s.alerts.find? fun e => e.number == number) = some e ∧
      (s' = s ∨ (e.ports.remove p).empty = true ∧ s' = s.depart number ∨
        (e.ports.remove p).empty = false ∧ s' = s.removeClaim number p) := by
  unfold ackAlertAct at h
  split at h
  · cases h
  · rename_i e he
    refine ⟨e, he, ?_⟩
    repeat' split at h
    all_goals cases h
    · exact .inr (.inl ⟨‹_›, rfl⟩)
    · exact .inr (.inr ⟨Bool.eq_false_of_not_eq_true ‹_›, rfl⟩)
    · exact .inl rfl

theorem getAttentionAct_done (h : getAttentionAct p s = .done s' st d) :
    s' = s ∨ ∃ c, s' = s.setPort p ((s.port p).setFlag c false) := by
  unfold getAttentionAct at h
  split at h <;> cases h
  · exact .inl rfl
  · exact .inr ⟨_, rfl⟩

theorem readPointAct_done {n : Fin 96} {age : Nat} (h : readPointAct n age s = .done s' st d) : s' = s := by
  unfold readPointAct at h
  repeat' split at h
  all_goals cases h
  rfl

theorem readDriftAct_done {n : Fin 96} (h : readDriftAct n s = .done s' st d) : s' = s := by
  unfold readDriftAct at h
  repeat' split at h
  all_goals cases h
  all_goals rfl
end

end Sys2Proof.Machine
end

-- ==== The parts each row writes ====
section
/-! PROOFS. The parts of the state each row of the command table can write, and the proof, row by row, that it leaves
every other part as it was; with it the totality of the rows, and what no row but a reset can do to the level. -/
namespace Sys2Proof.Machine

/-! ### The table of writes -/

/-- The parts a row can write. -/
def writes : Instr → List Part
  | .powerOnReset .. | .restart .. =>
    [.readers, .heldOrder, .queue, .drain, .labMap, .lines, .aims, .lots, .waiting, .day, .alerts, .serials, .ports,
      .holds, .level, .store, .memory, .freeCount]
  | .characterComplete .. | .framingCharacterReleased _ | .replyCharacterSent _ | .testCharacterSent _
  | .returnToMarkAfterBreak _ => [.readers]
  | .breakDetected _ | .headReadyChange _ => [.readers, .heldOrder]
  | .consumeCharacter _ => [.readers, .heldOrder, .queue, .ports]
  | .interCharacterTimeout _ => [.readers, .ports]
  | .holdClockExpiry _ => [.readers, .heldOrder, .ports]
  | .evaluationTake =>
    [.readers, .heldOrder, .queue, .drain, .lines, .waiting, .day, .alerts, .serials, .ports]
  | .consensusStep => [.lots, .waiting, .day, .alerts, .serials]
  | .finalisationStep | .overdueStep => [.lines, .waiting, .day, .alerts, .serials]
  | .countdownStep => [.lots, .day]
  | .transferStep => [.aims, .lots, .day]
  | .summary => [.day, .ports]
  | .closeInEdge | .dayTimerExpiry => [.readers, .drain, .day]
  | .dayTimerTick | .closeOutPulseEnd => [.day]
  | .leaseTick _ | .leaseExpiry _ => [.holds, .ports]
  | .headerReadComplete => [.store, .ports]
  | .loadEnd => [.labMap, .lines, .aims, .lots, .waiting, .day, .ports, .store]
  | .pageWriteComplete => [.day, .ports, .store, .memory]
  | .writeTimeout | .noAnswer => [.day, .ports, .store]
  | .commandSelection .. | .collectSelection .. => [.ports, .freeCount]
  | .enrollLine _ => [.labMap, .lines, .waiting, .ports]
  | .suspendLine _ | .resumeLine _ | .setLineAim _ | .chemEvent _ | .voidPoint _ => [.lines, .ports]
  | .withdrawLine _ => [.labMap, .lines, .waiting, .alerts, .serials, .ports]
  | .writeAim _ | .writeAimRules _ | .setPreload _ | .discardPending _ => [.aims, .ports]
  | .defineLot _ => [.lots, .waiting, .ports]
  | .makeCurrent _ | .retireLot _ | .writeCorrection _ | .adoptProposal _ => [.lots, .ports]
  | .clearLot _ => [.lots, .waiting, .alerts, .serials, .ports]
  | .closeDay _ => [.readers, .drain, .day, .ports]
  | .readDay _ | .writeDesk _ => [.day, .ports]
  | .hold _ | .renew _ | .release _ => [.holds, .ports]
  | .ackAlert _ | .setSubscription _ => [.waiting, .alerts, .serials, .ports]
  | .setReader _ => [.readers, .heldOrder, .ports]
  | .readReader _ | .clearReaderFaults _ | .testReader _ => [.readers, .ports]
  | .saveImage _ => [.ports, .store, .freeCount]
  | .setLock _ => [.aims, .level, .ports]
  | .resetPort _ => [.alerts, .holds, .ports]
  | .readLine _ | .readPoint _ | .readDrift _ | .readAims _ | .readLot _ | .readHolds _ | .readStore _ | .nextAlert _
  | .getAttention _ | .setAttention _ | .unknownCommand _ | .selectionBegins _ => [.ports]

/-! ### The shared operations -/

section
variable {s : State}

theorem consumeOnWire_frame (rl : Fin 4) (c : FifoChar) :
    Frame [.readers, .heldOrder, .queue, .ports] s (s.consumeOnWire rl c) := by
  unfold State.consumeOnWire State.completeFrame
  dsimp only
  repeat' split
  all_goals exact .of_patch rfl

theorem grant_frame : Frame [.readers, .heldOrder, .queue, .ports] s s.grant := by
  obtain ⟨h1, h2, h3, h4, h5, h6, h7, h8, h9, h10, h11, h12, h13, h14⟩ := grantTo_frame s.heldOrder s
  refine .of_patch (t := s.grant) ?_
  simp only [State.grant]
  cases h : grantTo s.heldOrder s
  simp_all [State.patch]

/-- Offers change the alerts alone. -/
theorem offerAll_frame (os : List Offer) : Frame [.waiting, .alerts, .serials] s (s.offerAll os) :=
  .of_quiet (s.offerAll_quiet os)

theorem departAll_frame (ks : List (Fin 32)) : Frame [.waiting, .alerts, .serials] s (s.departAll ks) :=
  .of_quiet (s.departAll_quiet ks)

/-- A line at work in a slot of the line table, with any waiting kinds. -/
theorem setLine_frame (n : Fin 96) (c : Option LineCtx) : Frame [.lines, .waiting] s (s.setLine n c) := .of_patch rfl

theorem setLot_frame (k : Fin 16) (l : Option Lot) : Frame [.lots, .waiting] s (s.setLot k l) := .of_patch rfl

theorem setDay_frame (d : DayUnit) : Frame [.day] s (s.setDay d) := .of_patch rfl

theorem place_frame (rec : StripRecord) (c : LineCtx) (l : Lot) :
    Frame [.lines, .waiting, .alerts, .serials] s (s.place rec c l) :=
  ((setLine_frame ..).sub (by decide)).trans ((offerAll_frame _).sub (by decide))

theorem takeRecord_frame (rec : StripRecord) (rest : List StripRecord) :
    Frame (writes .evaluationTake) s (s.takeRecord rec rest) := by
  have hq : Frame (writes .evaluationTake) s { s with queue := rest } := .of_patch rfl
  refine hq.trans ((grant_frame.sub (by decide)).trans ?_)
  unfold State.takeRecord State.evaluate
  split
  · exact .of_patch rfl
  · exact (place_frame ..).sub (by decide)

theorem consensus_frame (k : Fin 16) : Frame (writes .consensusStep) s (s.consensus k) := by
  unfold State.consensus
  split
  · exact .refl
  · exact ((setLot_frame ..).sub (by decide)).trans
      (((offerAll_frame _).sub (by decide)).trans ((setDay_frame _).sub (by decide)))

theorem finalise_frame (n : Fin 96) : Frame (writes .finalisationStep) s (s.finalise n) := by
  unfold State.finalise
  repeat' split
  case h_2.isTrue =>
    exact ((setLine_frame ..).sub (by decide)).trans
      (((offerAll_frame _).sub (by decide)).trans ((setDay_frame _).sub (by decide)))
  all_goals exact .refl

theorem overdueScan_frame (n : Fin 96) : Frame (writes .overdueStep) s (s.overdueScan n) := by
  unfold State.overdueScan
  split
  · exact .refl
  · split
    · dsimp only
      split
      · exact ((setLine_frame ..).sub (by decide)).trans
          (((Frame.of_quiet (State.offer_quiet ..)).sub (by decide)).trans ((setDay_frame _).sub (by decide)))
      · exact (setLine_frame ..).sub (by decide)
    · exact .refl

theorem countedDown_waiting (l : Lot) : l.countedDown.waiting = l.waiting := by
  unfold Lot.countedDown; split <;> rfl

theorem countDown_frame (k : Fin 16) : Frame (writes .countdownStep) s (s.countDown k) := by
  unfold State.countDown
  split
  · exact .refl
  · exact (Frame.setLot ‹_› (countedDown_waiting _)).sub (by decide)

theorem transferSet_frame (k : Fin 16) : Frame (writes .transferStep) s (s.transferSet k) := by
  unfold State.transferSet
  dsimp only
  repeat' split
  all_goals exact .of_patch rfl

theorem transferSlot_frame (k : Fin 16) : Frame (writes .transferStep) s (s.transferSlot k) := by
  unfold State.transferSlot
  split
  · exact .refl
  · repeat' split
    · exact .refl
    · exact .of_patch rfl
    · rename_i l hl _ _
      have hset := Frame.setLot hl (l' := { l with active := l.pending }) rfl
      exact (hset.sub (by decide)).trans (.of_patch rfl)

theorem advance_frame (pos : ClosePos) : Frame [.day] s (s.advance pos) := .of_patch rfl

theorem beginTransfer_frame : Frame [.day] s s.beginTransfer := by
  unfold State.beginTransfer; split <;> exact .of_patch rfl

theorem expireLease_frame (h : Hold) : Frame [.holds, .ports] s (s.expireLease h) :=
  (Frame.of_patch rfl).trans ((Frame.setPort _ _).sub (by decide))

theorem endSave_frame (o : LastOutcome) : Frame [.day, .ports, .store] s (s.endSave o) := by
  unfold State.endSave State.resumeTransfer; split <;> exact .of_patch rfl

theorem endSelection_frame (p : Port) (collect : Bool) (bytes : List Byte) (n : Nat) :
    Frame [.ports, .freeCount] s (s.endSelection p collect bytes n) := by
  unfold State.endSelection State.endCollect
  dsimp only
  cases p <;> repeat' split
  all_goals exact .of_patch rfl

theorem withdraw_frame (n : Fin 96) (c : LineCtx) :
    Frame [.labMap, .lines, .waiting, .alerts, .serials] s (s.withdraw n c) :=
  ((setLine_frame ..).sub (by decide)).trans (((departAll_frame _).sub (by decide)).trans (.of_patch rfl))

theorem dropLotAlerts_frame (k : Fin 16) (l : Lot) :
    Frame [.lots, .waiting, .alerts, .serials] s (s.dropLotAlerts k l) :=
  ((setLot_frame ..).sub (by decide)).trans ((departAll_frame _).sub (by decide))
end

/-! ### The commands -/

/-- A command writes its port's buffer and what its act writes. -/
theorem runCommand_frame {α : Type} {c : Command} {p : Port} {s : State} {parse : List Byte → Except Status α}
    {item : α → Option Item} {act : α → State → Answer} {ws : List Part} (hp : [.ports] ⊆ ws)
    (hact : ∀ a s' st data, act a s = .done s' st data → Frame ws s s') :
    Frame ws s (runCommand c p s parse item act) :=
  runCommand_keeps (Frame ws s) (fun _ _ _ _ h => h.trans ((Frame.answer ..).sub hp)) .refl
    fun _ a s' st data _ _ _ h => hact a s' st data h

/-- A command whose act is a record that is read. -/
theorem done_frame {ws : List Part} {s t s' : State} {st st' : Status} {d d' : List Byte}
    (h : Answer.done t st d = .done s' st' d') (hf : Frame ws s t) : Frame ws s s' := by
  rw [← (Answer.done.inj h).1]; exact hf


/-- A line edited with its waiting kinds kept, among other writes. -/
theorem line_edit_frame {ws : List Part} {s : State} {n : Fin 96} {c c' : LineCtx} (hc : s.line n = some c)
    (hw : c'.waiting = c.waiting) (hin : [.lines] ⊆ ws) : Frame ws s (s.setLine n (some c')) :=
  (Frame.setLine hc hw).sub hin

/-- A slot edited with its waiting kinds kept, among other writes. -/
theorem lot_edit_frame {ws : List Part} {s : State} {k : Fin 16} {l l' : Lot} (hl : s.lot k = some l)
    (hw : l'.waiting = l.waiting) (hin : [.lots] ⊆ ws) : Frame ws s (s.setLot k (some l')) :=
  (Frame.setLot hl hw).sub hin

/-- The CURRENT slot that a search by kind finds holds its lot. -/
theorem currentOf_lot {s : State} {kind : ProcessKind} {j : Fin 16} {m : Lot} (h : s.currentOf kind = some (j, m)) :
    s.lot j = some m := by
  obtain ⟨i, _, hi⟩ := List.exists_of_findSome?_eq_some h
  split at hi
  · cases hi
  · split at hi <;> cases hi
    assumption

/-- A slot after another, or the same, was given a lot with its waiting kinds. -/
theorem setLot_waiting_at {s : State} {j k : Fin 16} {m l : Lot} (hm : s.lot j = some m) (hl : s.lot k = some l)
    (m' : Lot) (hw : m'.waiting = m.waiting) :
    ∃ l', (s.setLot j (some m')).lot k = some l' ∧ l.waiting = l'.waiting := by
  rw [State.setLot_lot]
  split
  · rename_i e
    obtain rfl : m = l := Option.some.inj (hm.symm.trans (e ▸ hl))
    exact ⟨m', rfl, hw.symm⟩
  · exact ⟨l, hl, rfl⟩

/-- Every row leaves every part it does not write as it was. -/
theorem exec_frame {c : Instr} {s t : State} (h : exec c s = .next t) : Frame (writes c) s t := by
  cases c with
  | consumeCharacter rl =>
    rw [← Host.Outcome.next.inj h]
    repeat' split
    · exact .refl
    · exact .of_patch rfl
    · exact (Frame.of_patch rfl).trans (consumeOnWire_frame ..)
    · exact .refl
  | powerOnReset ready straps | characterComplete rl data parity stop | breakDetected rl | framingCharacterReleased rl
  | headReadyChange rl | interCharacterTimeout rl | holdClockExpiry rl | replyCharacterSent rl | testCharacterSent rl
  | returnToMarkAfterBreak rl | summary | closeInEdge | dayTimerTick | dayTimerExpiry | closeOutPulseEnd =>
    rw [← Host.Outcome.next.inj h]
    repeat' split
    all_goals exact .of_patch rfl
  | evaluationTake =>
    rw [← Host.Outcome.next.inj h]
    repeat' split
    · exact .refl
    · rename_i rec rest _ _
      refine Frame.trans (t := { s with drain := s.drain - 1 }) (.of_patch rfl) ((takeRecord_frame rec rest).trans ?_)
      unfold State.endDrain
      split <;> exact .of_patch rfl
    · exact takeRecord_frame ..
    · exact .refl
  | consensusStep =>
    rw [← Host.Outcome.next.inj h]
    split
    · exact (consensus_frame _).trans ((advance_frame _).sub (by decide))
    · exact .refl
  | finalisationStep =>
    rw [← Host.Outcome.next.inj h]
    split
    · exact (finalise_frame _).trans ((advance_frame _).sub (by decide))
    · exact .refl
  | overdueStep =>
    rw [← Host.Outcome.next.inj h]
    split
    · exact (overdueScan_frame _).trans ((advance_frame _).sub (by decide))
    · exact .refl
  | countdownStep =>
    rw [← Host.Outcome.next.inj h]
    repeat' split
    · exact (countDown_frame _).trans ((advance_frame _).sub (by decide))
    · exact ((countDown_frame _).trans ((advance_frame _).sub (by decide))).trans (beginTransfer_frame.sub (by decide))
    · exact .refl
  | transferStep =>
    rw [← Host.Outcome.next.inj h]
    split
    · exact (transferSet_frame _).trans ((advance_frame _).sub (by decide))
    · exact (transferSlot_frame _).trans ((advance_frame _).sub (by decide))
    · exact .refl
  | leaseTick i | leaseExpiry i =>
    rw [← Host.Outcome.next.inj h]
    repeat' split
    all_goals first | exact expireLease_frame _ | exact .of_patch rfl
  | headerReadComplete =>
    rw [← Host.Outcome.next.inj h]
    unfold State.headerRead
    repeat' split
    all_goals exact .of_patch rfl
  | loadEnd =>
    rw [← Host.Outcome.next.inj h]
    unfold State.loadEnd
    dsimp only
    repeat' split
    all_goals exact .of_patch rfl
  | pageWriteComplete =>
    rw [← Host.Outcome.next.inj h]
    split
    case h_3 =>
      unfold State.pageWritten
      dsimp only
      split
      · exact .of_patch rfl
      · exact (Frame.of_patch rfl).trans ((endSave_frame _).sub (by decide))
    all_goals exact .refl
  | writeTimeout | noAnswer =>
    rw [← Host.Outcome.next.inj h]
    split
    all_goals first | exact endSave_frame _ | exact .of_patch rfl
  | commandSelection p bytes =>
    rw [← Host.Outcome.next.inj h]; exact endSelection_frame ..
  | collectSelection p n =>
    rw [← Host.Outcome.next.inj h]; exact endSelection_frame ..
  | selectionBegins p =>
    rw [← Host.Outcome.next.inj h]
    split
    · exact .refl
    · exact .setPort ..
  | unknownCommand p =>
    rw [← Host.Outcome.next.inj h]
    repeat' split
    all_goals first | exact .answer .. | exact .refl
  | restart p ready straps =>
    rw [← Host.Outcome.next.inj h]
    split
    · exact .refl
    · exact (Frame.answer ..).sub (by simp [writes])
    · exact .of_patch rfl
  | enrollLine p =>
    rw [← Host.Outcome.next.inj h]
    refine runCommand_frame (by simp [writes]) fun a s' st d hact => ?_
    obtain ⟨n, _, _, _, rfl⟩ := enrollLineAct_done hact
    exact .of_patch rfl
  | suspendLine p =>
    rw [← Host.Outcome.next.inj h]
    refine runCommand_frame (by simp [writes]) fun a s' st d hact => ?_
    obtain ⟨c, hc, rfl⟩ := suspendLineAct_done hact
    exact line_edit_frame hc rfl (by simp [writes])
  | resumeLine p =>
    rw [← Host.Outcome.next.inj h]
    refine runCommand_frame (by simp [writes]) fun a s' st d hact => ?_
    obtain ⟨c, hc, rfl⟩ := resumeLineAct_done hact
    exact line_edit_frame hc rfl (by simp [writes])
  | withdrawLine p =>
    rw [← Host.Outcome.next.inj h]
    refine runCommand_frame (by simp [writes]) fun a s' st d hact => ?_
    obtain ⟨c, _, rfl⟩ := withdrawLineAct_done hact
    exact (withdraw_frame ..).sub (by simp [writes])
  | setLineAim p =>
    rw [← Host.Outcome.next.inj h]
    refine runCommand_frame (by simp [writes]) fun a s' st d hact => ?_
    obtain ⟨c, hc, _, rfl⟩ := setLineAimAct_done hact
    exact line_edit_frame hc rfl (by simp [writes])
  | chemEvent p =>
    rw [← Host.Outcome.next.inj h]
    refine runCommand_frame (by simp [writes]) fun a s' st d hact => ?_
    obtain ⟨c, hc, rfl⟩ := chemEventAct_done hact
    exact line_edit_frame hc rfl (by simp [writes])
  | voidPoint p =>
    rw [← Host.Outcome.next.inj h]
    refine runCommand_frame (by simp [writes]) fun a s' st d hact => ?_
    obtain ⟨c, pt, hc, _, rfl⟩ := voidPointAct_done hact
    exact line_edit_frame hc rfl (by simp [writes])
  | writeAim p =>
    rw [← Host.Outcome.next.inj h]
    refine runCommand_frame (by simp [writes]) fun a s' st d hact => ?_
    obtain ⟨_, rfl⟩ := writeAimAct_done hact
    exact .of_patch rfl
  | writeAimRules p =>
    rw [← Host.Outcome.next.inj h]
    refine runCommand_frame (by simp [writes]) fun a s' st d hact => ?_
    obtain ⟨_, _, rfl⟩ := writeAimRulesAct_done hact
    exact .of_patch rfl
  | defineLot p =>
    rw [← Host.Outcome.next.inj h]
    refine runCommand_frame (by simp [writes]) fun a s' st d hact => ?_
    obtain ⟨_, _, rfl⟩ := defineLotAct_done hact
    exact .of_patch rfl
  | makeCurrent p =>
    rw [← Host.Outcome.next.inj h]
    refine runCommand_frame (by simp [writes]) fun a s' st d hact => ?_
    obtain ⟨l, hl, _, ⟨_, rfl⟩ | ⟨j, m, hm, rfl⟩⟩ := makeCurrentAct_done hact
    · exact lot_edit_frame hl rfl (by simp [writes])
    · have hm' := currentOf_lot hm
      obtain ⟨l', hl', hw⟩ := setLot_waiting_at hm' hl (m.into (.retiring s.day.desk.crossoverDays)) rfl
      have hcur : (l.into .current).waiting = l'.waiting := hw
      have hin : [.lots] ⊆ writes (.makeCurrent p) := by simp [writes]
      exact (lot_edit_frame (l' := m.into (.retiring s.day.desk.crossoverDays)) hm' rfl hin).trans (lot_edit_frame hl' hcur hin)
  | retireLot p =>
    rw [← Host.Outcome.next.inj h]
    refine runCommand_frame (by simp [writes]) fun a s' st d hact => ?_
    obtain ⟨l, hl, rfl⟩ := retireLotAct_done hact
    exact lot_edit_frame hl rfl (by simp [writes])
  | clearLot p =>
    rw [← Host.Outcome.next.inj h]
    refine runCommand_frame (by simp [writes]) fun a s' st d hact => ?_
    obtain ⟨l, _, rfl⟩ := clearLotAct_done hact
    exact ((dropLotAlerts_frame ..).trans ((setLot_frame ..).sub (by decide))).sub (by simp [writes])
  | writeCorrection p =>
    rw [← Host.Outcome.next.inj h]
    refine runCommand_frame (by simp [writes]) fun a s' st d hact => ?_
    obtain ⟨l, hl, rfl⟩ := writeCorrectionAct_done hact
    exact lot_edit_frame hl rfl (by simp [writes])
  | adoptProposal p =>
    rw [← Host.Outcome.next.inj h]
    refine runCommand_frame (by simp [writes]) fun a s' st d hact => ?_
    obtain ⟨l, q, hl, rfl⟩ := adoptProposalAct_done hact
    exact lot_edit_frame hl rfl (by simp [writes])
  | closeDay p =>
    rw [← Host.Outcome.next.inj h]
    refine runCommand_frame (by simp [writes]) fun a s' st d hact => ?_
    obtain ⟨_, _, rfl⟩ := closeDayAct_done hact
    exact .of_patch rfl
  | hold p =>
    rw [← Host.Outcome.next.inj h]
    refine runCommand_frame (by simp [writes]) fun a s' st d hact => ?_
    obtain ⟨_, _, rfl⟩ | rfl := holdAct_done hact <;> exact .of_patch rfl
  | renew p =>
    rw [← Host.Outcome.next.inj h]
    refine runCommand_frame (by simp [writes]) fun a s' st d hact => ?_
    obtain rfl := renewAct_done hact
    exact .of_patch rfl
  | release p =>
    rw [← Host.Outcome.next.inj h]
    refine runCommand_frame (by simp [writes]) fun a s' st d hact => ?_
    obtain rfl := releaseAct_done hact
    exact .of_patch rfl
  | nextAlert p =>
    rw [← Host.Outcome.next.inj h]
    refine runCommand_frame (by simp [writes]) fun a s' st d hact => ?_
    obtain rfl := nextAlertAct_done hact
    exact .refl
  | readPoint p =>
    rw [← Host.Outcome.next.inj h]
    refine runCommand_frame (by simp [writes]) fun a s' st d hact => ?_
    obtain rfl := readPointAct_done hact
    exact .refl
  | readDrift p =>
    rw [← Host.Outcome.next.inj h]
    refine runCommand_frame (by simp [writes]) fun a s' st d hact => ?_
    obtain rfl := readDriftAct_done hact
    exact .refl
  | ackAlert p =>
    rw [← Host.Outcome.next.inj h]
    refine runCommand_frame (by simp [writes]) fun a s' st d hact => ?_
    obtain ⟨e, _, rfl | ⟨_, rfl⟩ | ⟨_, rfl⟩⟩ := ackAlertAct_done hact
    · exact .refl
    · exact (Frame.of_quiet (State.depart_quiet ..)).sub (by simp [writes])
    · exact .of_patch rfl
  | setSubscription p =>
    rw [← Host.Outcome.next.inj h]
    refine runCommand_frame (by simp [writes]) fun a s' st d hact => ?_
    have hset := Frame.setPort (s := s) p { s.port p with subscription := a }
    refine done_frame hact ((hset.sub (by simp [writes])).trans ?_)
    exact (Frame.trans (.of_patch rfl) ((departAll_frame _).sub (by simp [writes])))
  | getAttention p =>
    rw [← Host.Outcome.next.inj h]
    refine runCommand_frame (by simp [writes]) fun a s' st d hact => ?_
    obtain rfl | ⟨c, rfl⟩ := getAttentionAct_done hact
    · exact .refl
    · exact (Frame.setPort ..).sub (by simp [writes])
  | setReader p =>
    rw [← Host.Outcome.next.inj h]
    refine runCommand_frame (by simp [writes]) fun a s' st d hact => ?_
    unfold setReaderAct at hact
    refine done_frame hact ?_
    split <;> exact .of_patch rfl
  | testReader p =>
    rw [← Host.Outcome.next.inj h]
    refine runCommand_frame (by simp [writes]) fun a s' st d hact => ?_
    obtain ⟨_, rfl⟩ := testReaderAct_done hact
    exact .of_patch rfl
  | saveImage p =>
    rw [← Host.Outcome.next.inj h]
    refine runCommand_frame (by simp [writes]) fun a s' st d hact => ?_
    obtain ⟨_, _, rfl⟩ := saveImageAct_done hact
    exact .of_patch rfl
  | setLock p =>
    rw [← Host.Outcome.next.inj h]
    refine runCommand_frame (by simp [writes]) fun a s' st d hact => ?_
    obtain ⟨_, rfl⟩ := setLockAct_done hact
    exact .of_patch rfl
  | resetPort p =>
    rw [← Host.Outcome.next.inj h]
    refine runCommand_frame (by simp [writes]) fun a s' st d hact => ?_
    refine done_frame hact (Frame.trans (.of_patch rfl) ((Frame.setPort ..).sub (by simp [writes])))
  | setAttention p =>
    rw [← Host.Outcome.next.inj h]
    refine runCommand_frame (by simp [writes]) fun a s' st d hact => ?_
    exact done_frame hact ((Frame.setPort ..).sub (by simp [writes]))
  | _ =>
    rw [← Host.Outcome.next.inj h]
    exact runCommand_frame (by simp [writes]) fun a s' st d hact => done_frame hact (.of_patch rfl)

/-! ### Totality -/

/-- No row ends in a fault or a refusal. -/
theorem exec_next (c : Instr) (s : State) : ∃ t, exec c s = .next t := by
  cases c <;> exact ⟨_, rfl⟩

/-- No row writes the commands that wait. -/
theorem pending_not_written (c : Instr) : (writes c).contains .pending = false := by
  cases c <;> rfl

/-- Settles O2: every row answers a next state, and the commands that wait are outside every row's writes. -/
theorem everyCommandAnswersNext : Obligations.EveryCommandAnswersNext := by
  intro c s
  obtain ⟨t, ht⟩ := exec_next c s
  exact ⟨t, ht, (exec_frame ht).pending (pending_not_written c)⟩

/-- Settles O1: the two cases of the queue of commands. -/
theorem stepRunsTheFrontCommand : Obligations.StepRunsTheFrontCommand :=
  ⟨fun c rest s h => by simp [step, h], fun s h => by simp [step, h]⟩

/-- A law that speaks of no waiting command, and that every row keeps, is kept by every step. -/
theorem step_keeps {P : State → Prop} (hpend : ∀ s l, P s → P { s with pending := l })
    (hexec : ∀ c s t, exec c s = .next t → P s → P t) {s t : State} (h : step s = .next t) (hs : P s) : P t := by
  cases hp : s.pending with
  | nil =>
    rw [stepRunsTheFrontCommand.2 s hp] at h
    exact Host.Outcome.next.inj h ▸ hs
  | cons c rest =>
    rw [stepRunsTheFrontCommand.1 c rest s hp] at h
    exact hexec c _ t h (hpend s rest hs)

end Sys2Proof.Machine
end

-- ==== The serial memory, the hold table, the aim sets and the ports ====
section
/-! PROOFS. The laws of the serial memory, the hold table, the aim sets and the ports: each with the rows that write the
part it speaks of, all others keeping it by their frame. -/
namespace Sys2Proof.Machine

/-! ### The serial memory (log 18) -/

theorem exec_keeps_memory (c : Instr) (s t : State) (h : exec c s = .next t) (hs : MemoryOk s) : MemoryOk t := by
  by_cases hw : (writes c).contains .memory = false
  · unfold MemoryOk
    rw [(exec_frame h).memory hw]; exact hs
  · cases c with
    | powerOnReset ready straps =>
      rw [← Host.Outcome.next.inj h]; exact State.memoryAfterCut_wf hs
    | restart p ready straps =>
      rw [← Host.Outcome.next.inj h]
      split
      · exact hs
      · simpa [MemoryOk] using hs
      · exact State.memoryAfterCut_wf hs
    | pageWriteComplete =>
      rw [← Host.Outcome.next.inj h]
      split
      case h_3 body _ =>
        have hpage : Memory.wf (writePage s.memory body s.store.writes) := writePage_wf _ _ hs
        unfold State.pageWritten State.endSave
        dsimp only
        split
        · exact hpage
        · simpa [MemoryOk] using hpage
      all_goals exact hs
    | _ => exact absurd rfl hw

/-- Settles O50: only page writes and resets write the memory, and a page lies inside it. -/
theorem stepKeepsMemoryCanonical : Obligations.StepKeepsMemoryCanonical :=
  fun _ _ h hs => step_keeps (fun _ _ h => h) exec_keeps_memory h hs

/-! ### The hold table (R161) -/

theorem HoldsOk.of_eq {s t : State} (h : t.holds = s.holds) (hs : HoldsOk s) : HoldsOk t := by
  unfold HoldsOk; rw [h]; exact hs

/-- Records that leave the table, in the order the others have. -/
theorem HoldsOk.filter {s t : State} {keep : Hold → Bool} (hs : HoldsOk s) (h : t.holds = s.holds.filter keep) :
    HoldsOk t := by
  obtain ⟨hlen, hnodup, hlease⟩ := hs
  unfold HoldsOk
  rw [h]
  exact ⟨(List.length_filter_le ..).trans hlen, hnodup.sublist (List.filter_sublist.map _),
    fun x hx => hlease x (List.mem_of_mem_filter hx)⟩

/-- A lease that is set to 1 to 60 minutes. -/
theorem HoldsOk.setLease {s t : State} {i : Item} {lease : Nat} (hs : HoldsOk s) (hlow : 1 ≤ lease) (hhigh : lease ≤ 60)
    (h : t.holds = setLease s.holds i lease) : HoldsOk t := by
  obtain ⟨hlen, hnodup, hlease⟩ := hs
  have hitems : (Machine.setLease s.holds i lease).map Hold.item = s.holds.map Hold.item := by
    unfold Machine.setLease
    rw [List.map_map]
    apply List.map_congr_left
    intro x _
    simp only [Function.comp]
    split <;> rfl
  unfold HoldsOk
  rw [h, hitems]
  refine ⟨by simpa [Machine.setLease] using hlen, hnodup, fun x hx => ?_⟩
  obtain ⟨y, hy, rfl⟩ := List.mem_map.mp hx
  split
  · exact ⟨hlow, hhigh⟩
  · exact hlease y hy

/-- No record names an item that nobody holds. -/
theorem not_mem_items {s : State} {i : Item} (h : s.holder i = none) : i ∉ s.holds.map Hold.item := by
  intro hi
  obtain ⟨x, hx, rfl⟩ := List.mem_map.mp hi
  simp only [State.holder, State.holdOn, Option.map_eq_none_iff, List.find?_eq_none, beq_iff_eq] at h
  exact h x hx rfl

/-- A new record, where there is room and nobody holds its item. -/
theorem HoldsOk.append {s t : State} {x : Hold} (hs : HoldsOk s) (hroom : s.holds.length < Config.holdDepth)
    (hfree : s.holder x.item = none) (hlease : 1 ≤ x.lease ∧ x.lease ≤ 60) (h : t.holds = s.holds ++ [x]) :
    HoldsOk t := by
  obtain ⟨hlen, hnodup, hall⟩ := hs
  unfold HoldsOk
  rw [h]
  refine ⟨by simpa using hroom, ?_, fun y hy => ?_⟩
  · rw [List.map_append]
    refine hnodup.append (List.nodup_singleton _) ?_
    simpa using not_mem_items hfree
  · rcases List.mem_append.mp hy with hy | hy
    · exact hall y hy
    · rw [List.mem_singleton.mp hy]; exact hlease

/-- HOLD and RENEW read a lease of 1 to 60 minutes (R162). -/
theorem parseHold_lease {bs : List Byte} {i : Item} {lease : Nat} (h : parseHold bs = .ok (i, lease)) :
    1 ≤ lease ∧ lease ≤ 60 := by
  unfold parseHold at h
  split at h
  · rename_i k x l
    cases hi : itemOf k x with
    | none => simp [hi, need, bind, Except.bind] at h
    | some item =>
      by_cases hl : l.toNat ≤ 60
      · simp only [hi, need, bind, Except.bind, check, hl, decide_true, if_true, Except.ok.injEq, Prod.mk.injEq] at h
        obtain ⟨_, rfl⟩ := h
        split <;> omega
      · simp [hi, need, bind, Except.bind, check, hl] at h
  · cases h

/-- The record of a lease that expires leaves the table (R164). -/
theorem expireLease_holds (s : State) (x : Hold) : (s.expireLease x).holds = freeItem s.holds x.item := by
  simp [State.expireLease]

theorem exec_keeps_holds (c : Instr) (s t : State) (h : exec c s = .next t) (hs : HoldsOk s) : HoldsOk t := by
  by_cases hw : (writes c).contains .holds = false
  · exact hs.of_eq ((exec_frame h).holds hw)
  · have hans : ∀ (u : State) p code st data, HoldsOk u → HoldsOk (u.answer p code st data) :=
      fun u p code st data hu => hu.of_eq (State.answer_holds ..)
    have hreset : ∀ ready straps level, HoldsOk (s.resetWhole ready straps level) :=
      fun _ _ _ => ⟨Nat.zero_le _, List.nodup_nil, fun _ hx => nomatch hx⟩
    cases c with
    | powerOnReset ready straps => rw [← Host.Outcome.next.inj h]; exact hreset ..
    | restart p ready straps =>
      rw [← Host.Outcome.next.inj h]
      split
      · exact hs
      · exact hans _ _ _ _ _ hs
      · exact hreset ..
    | leaseTick i =>
      rw [← Host.Outcome.next.inj h]
      split
      · exact hs
      · rename_i x hx
        have ⟨_, _, hlease⟩ := hs
        have hmem := hlease x (List.mem_of_find?_eq_some hx)
        split
        · exact hs.filter (expireLease_holds s x)
        · exact hs.setLease (by omega) (by omega) rfl
    | leaseExpiry i =>
      rw [← Host.Outcome.next.inj h]
      repeat' split
      · exact hs
      · exact hs.filter (expireLease_holds s _)
      · exact hs
    | hold p =>
      rw [← Host.Outcome.next.inj h]
      refine runCommand_keeps HoldsOk (fun t _ _ _ => hans t p _ _ _) hs fun bs a s' st d _ hparse _ hact => ?_
      have hlease := parseHold_lease (i := a.1) (lease := a.2) hparse
      obtain ⟨hfree, hroom, rfl⟩ | rfl := holdAct_done hact
      · exact hs.append hroom hfree hlease rfl
      · exact hs.setLease hlease.1 hlease.2 rfl
    | renew p =>
      rw [← Host.Outcome.next.inj h]
      refine runCommand_keeps HoldsOk (fun t _ _ _ => hans t p _ _ _) hs fun bs a s' st d _ hparse _ hact => ?_
      have hlease := parseHold_lease (i := a.1) (lease := a.2) hparse
      obtain rfl := renewAct_done hact
      exact hs.setLease hlease.1 hlease.2 rfl
    | release p =>
      rw [← Host.Outcome.next.inj h]
      refine runCommand_keeps HoldsOk (fun t _ _ _ => hans t p _ _ _) hs fun bs a s' st d _ _ _ hact => ?_
      obtain rfl := releaseAct_done hact
      exact hs.filter rfl
    | resetPort p =>
      rw [← Host.Outcome.next.inj h]
      refine runCommand_keeps HoldsOk (fun t _ _ _ => hans t p _ _ _) hs fun bs a s' st d _ _ _ hact => ?_
      rw [← (Answer.done.inj hact).1]
      exact hs.filter (State.setPort_holds ..)
    | _ => exact absurd rfl hw

/-- Settles O51: records join with room and a free item, leave, or have a lease in range set. -/
theorem stepKeepsHoldTable : Obligations.StepKeepsHoldTable :=
  fun _ _ h hs => step_keeps (fun _ _ h => h) exec_keeps_holds h hs

end Sys2Proof.Machine
end

-- ==== The rows of the commands ====
section
/-! PROOFS. Every command but RESTART is carried out by `runCommand` with an act that answers OK or NONE when it is not
refused, and that leaves the other port as it is. -/
namespace Sys2Proof.Machine

/-- What every act keeps to: it answers OK or NONE, and leaves the other port as it is. -/
def ActOk (p : Port) (act : State → Answer) : Prop :=
  ∀ s s' st d, act s = .done s' st d → (st = .ok ∨ st = .nothing) ∧ s'.port (otherPort p) = s.port (otherPort p)

section
variable {p : Port}

/-- States with the same ports have the same port. -/
theorem port_congr {s t : State} (h0 : t.mp0 = s.mp0) (h1 : t.mp1 = s.mp1) (q : Port) : t.port q = s.port q := by
  cases q
  · exact h0
  · exact h1

theorem quiet_port {s t : State} (h : t.quiet = s.quiet) (q : Port) : t.port q = s.port q := by
  obtain ⟨_, _, _, _, _, _, _, h0, h1, _⟩ := State.quiet_fields h
  exact port_congr h0 h1 q

theorem actOk_enrollLine (lab : Nat) (kind : ProcessKind) (k : Fin 16) : ActOk p (enrollLineAct p lab kind k) := by
  intro s s' st d h
  unfold enrollLineAct at h
  repeat' split at h
  all_goals cases h
  exact ⟨.inl rfl, port_congr rfl rfl _⟩

theorem actOk_suspendLine (n : Fin 96) : ActOk p (suspendLineAct n) := by
  intro s s' st d h
  unfold suspendLineAct at h
  repeat' split at h
  all_goals cases h
  exact ⟨.inl rfl, port_congr rfl rfl _⟩

theorem actOk_resumeLine (n : Fin 96) : ActOk p (resumeLineAct n) := by
  intro s s' st d h
  unfold resumeLineAct at h
  repeat' split at h
  all_goals cases h
  exact ⟨.inl rfl, port_congr rfl rfl _⟩

theorem actOk_withdrawLine (n : Fin 96) : ActOk p (withdrawLineAct n) := by
  intro s s' st d h
  unfold withdrawLineAct at h
  repeat' split at h
  all_goals cases h
  have hq := State.departAll_quiet (s.setLine n (some { ‹LineCtx› with waiting := Table.fill 13 none }))
  exact ⟨.inl rfl, quiet_port (hq _) _⟩

theorem actOk_setLineAim (n : Fin 96) (k : Fin 16) : ActOk p (setLineAimAct n k) := by
  intro s s' st d h
  unfold setLineAimAct at h
  repeat' split at h
  all_goals cases h
  exact ⟨.inl rfl, port_congr rfl rfl _⟩

theorem actOk_chemEvent (n : Fin 96) (mix : Bool) : ActOk p (chemEventAct p n mix) := by
  intro s s' st d h
  unfold chemEventAct at h
  repeat' split at h
  all_goals cases h
  exact ⟨.inl rfl, port_congr rfl rfl _⟩

theorem actOk_voidPoint (n : Fin 96) (day : Nat) : ActOk p (voidPointAct n day) := by
  intro s s' st d h
  unfold voidPointAct at h
  repeat' split at h
  all_goals cases h
  exact ⟨.inl rfl, port_congr rfl rfl _⟩

theorem actOk_readPoint (n : Fin 96) (age : Nat) : ActOk p (readPointAct n age) := by
  intro s s' st d h
  unfold readPointAct at h
  repeat' split at h
  all_goals cases h
  exact ⟨.inl rfl, rfl⟩

theorem actOk_readDrift (n : Fin 96) : ActOk p (readDriftAct n) := by
  intro s s' st d h
  unfold readDriftAct at h
  repeat' split at h
  all_goals cases h
  · exact ⟨.inr rfl, rfl⟩
  · exact ⟨.inl rfl, rfl⟩

theorem actOk_writeAim (k : Fin 16) (v : Fin 12) (x : ValueAim) : ActOk p (writeAimAct k v x) := by
  intro s s' st d h
  unfold writeAimAct at h
  repeat' split at h
  all_goals cases h
  exact ⟨.inl rfl, port_congr rfl rfl _⟩

theorem actOk_writeAimRules (x : AimRules) : ActOk p (writeAimRulesAct x) := by
  intro s s' st d h
  unfold writeAimRulesAct at h
  repeat' split at h
  all_goals cases h
  exact ⟨.inl rfl, port_congr rfl rfl _⟩

theorem actOk_defineLot (x : LotOperands) : ActOk p (defineLotAct x) := by
  intro s s' st d h
  unfold defineLotAct at h
  repeat' split at h
  all_goals cases h
  exact ⟨.inl rfl, port_congr rfl rfl _⟩

theorem actOk_makeCurrent (k : Fin 16) : ActOk p (makeCurrentAct p k) := by
  intro s s' st d h
  unfold makeCurrentAct at h
  repeat' split at h
  all_goals cases h
  all_goals exact ⟨.inl rfl, port_congr rfl rfl _⟩

theorem actOk_retireLot (k : Fin 16) : ActOk p (retireLotAct k) := by
  intro s s' st d h
  unfold retireLotAct at h
  repeat' split at h
  all_goals cases h
  exact ⟨.inl rfl, port_congr rfl rfl _⟩

theorem actOk_clearLot (k : Fin 16) : ActOk p (clearLotAct k) := by
  intro s s' st d h
  unfold clearLotAct at h
  repeat' split at h
  all_goals cases h
  have hq := State.departAll_quiet (s.setLot k (some { ‹Lot› with waiting := Table.fill 12 none }))
  exact ⟨.inl rfl, quiet_port (hq _) _⟩

theorem actOk_writeCorrection (k : Fin 16) (v : Fin 12) (x : Int) : ActOk p (writeCorrectionAct k v x) := by
  intro s s' st d h
  unfold writeCorrectionAct at h
  repeat' split at h
  all_goals cases h
  exact ⟨.inl rfl, port_congr rfl rfl _⟩

theorem actOk_adoptProposal (k : Fin 16) : ActOk p (adoptProposalAct k) := by
  intro s s' st d h
  unfold adoptProposalAct at h
  repeat' split at h
  all_goals cases h
  exact ⟨.inl rfl, port_congr rfl rfl _⟩

theorem actOk_closeDay : ActOk p (closeDayAct p) := by
  intro s s' st d h
  unfold closeDayAct at h
  repeat' split at h
  all_goals cases h
  exact ⟨.inl rfl, port_congr rfl rfl _⟩

theorem actOk_hold (i : Item) (lease : Nat) : ActOk p (holdAct p i lease) := by
  intro s s' st d h
  unfold holdAct at h
  repeat' split at h
  all_goals cases h
  all_goals exact ⟨.inl rfl, port_congr rfl rfl _⟩

theorem actOk_renew (i : Item) (lease : Nat) : ActOk p (renewAct p i lease) := by
  intro s s' st d h
  unfold renewAct at h
  repeat' split at h
  all_goals cases h
  exact ⟨.inl rfl, port_congr rfl rfl _⟩

theorem actOk_release (i : Item) : ActOk p (releaseAct p i) := by
  intro s s' st d h
  unfold releaseAct at h
  repeat' split at h
  all_goals cases h
  exact ⟨.inl rfl, port_congr rfl rfl _⟩

theorem actOk_nextAlert : ActOk p (nextAlertAct p) := by
  intro s s' st d h
  unfold nextAlertAct at h
  split at h <;> cases h
  · exact ⟨.inl rfl, rfl⟩
  · exact ⟨.inr rfl, rfl⟩

theorem actOk_ackAlert (number : Fin 32) (serial : BitVec 8) : ActOk p (ackAlertAct p number serial) := by
  intro s s' st d h
  unfold ackAlertAct at h
  repeat' split at h
  all_goals cases h
  · exact ⟨.inl rfl, quiet_port (State.depart_quiet ..) _⟩
  · exact ⟨.inl rfl, port_congr rfl rfl _⟩
  · exact ⟨.inl rfl, rfl⟩

theorem actOk_setSubscription (kinds : BitVec 9) : ActOk p (setSubscriptionAct p kinds) := by
  intro s s' st d h
  cases h
  refine ⟨.inl rfl, (quiet_port (State.departAll_quiet ..) _).trans ?_⟩
  cases p <;> rfl

theorem actOk_getAttention : ActOk p (getAttentionAct p) := by
  intro s s' st d h
  unfold getAttentionAct at h
  split at h <;> cases h
  · exact ⟨.inr rfl, rfl⟩
  · exact ⟨.inl rfl, State.setPort_port_other ..⟩

theorem actOk_setAttention (masks groups : BitVec 5) : ActOk p (setAttentionAct p masks groups) := by
  intro s s' st d h
  cases h
  exact ⟨.inl rfl, State.setPort_port_other ..⟩

theorem actOk_setReader (x : ReaderSettings) : ActOk p (setReaderAct x) := by
  intro s s' st d h
  unfold setReaderAct at h
  cases h
  refine ⟨.inl rfl, ?_⟩
  split <;> exact port_congr rfl rfl _

theorem actOk_testReader (rl : Fin 4) : ActOk p (testReaderAct rl) := by
  intro s s' st d h
  unfold testReaderAct at h
  dsimp only at h
  split at h
  · cases h
  · split at h <;> cases h
    exact ⟨.inl rfl, port_congr rfl rfl _⟩

theorem actOk_saveImage : ActOk p saveImageAct := by
  intro s s' st d h
  unfold saveImageAct at h
  split at h <;> cases h
  exact ⟨.inl rfl, port_congr rfl rfl _⟩

theorem actOk_setLock (level : Nat) : ActOk p (setLockAct level) := by
  intro s s' st d h
  unfold setLockAct at h
  split at h <;> cases h
  exact ⟨.inl rfl, port_congr rfl rfl _⟩

theorem actOk_resetPort : ActOk p (resetPortAct p) := by
  intro s s' st d h
  cases h
  refine ⟨.inl rfl, ?_⟩
  cases p <;> rfl

/-- An act that answers OK and leaves both ports as they are, in every state. -/
theorem actOk_of_ok {f : State → State} {data : State → List Byte} (h : ∀ s q, (f s).port q = s.port q) :
    ActOk p (fun s => .done (f s) .ok (data s)) := by
  intro s s' st d hd
  cases hd
  exact ⟨.inl rfl, h s _⟩
end

/-- Every command but RESTART is carried out on its one path (R158, R159), with an act that keeps to `ActOk`. -/
theorem row_runCommand {c : Command} (hc : c ≠ .restart) (p : Port) (ready : BitVec 4) (straps : BitVec 3) :
    ∃ (α : Type) (parse : List Byte → Except Status α) (item : α → Option Item) (act : α → State → Answer),
      (∀ s, exec (c.row p ready straps) s = .next (runCommand c p s parse item act)) ∧ ∀ a, ActOk p (act a) := by
  cases c with
  | restart => exact absurd rfl hc
  | enrollLine => exact ⟨_, _, _, _, fun _ => rfl, fun _ => actOk_enrollLine _ _ _⟩
  | suspendLine => exact ⟨_, _, _, _, fun _ => rfl, actOk_suspendLine⟩
  | resumeLine => exact ⟨_, _, _, _, fun _ => rfl, actOk_resumeLine⟩
  | withdrawLine => exact ⟨_, _, _, _, fun _ => rfl, actOk_withdrawLine⟩
  | setLineAim => exact ⟨_, _, _, _, fun _ => rfl, fun _ => actOk_setLineAim _ _⟩
  | chemEvent => exact ⟨_, _, _, _, fun _ => rfl, fun _ => actOk_chemEvent _ _⟩
  | voidPoint => exact ⟨_, _, _, _, fun _ => rfl, fun _ => actOk_voidPoint _ _⟩
  | readPoint => exact ⟨_, _, _, _, fun _ => rfl, fun _ => actOk_readPoint _ _⟩
  | readDrift => exact ⟨_, _, _, _, fun _ => rfl, actOk_readDrift⟩
  | writeAim => exact ⟨_, _, _, _, fun _ => rfl, fun _ => actOk_writeAim _ _ _⟩
  | writeAimRules => exact ⟨_, _, _, _, fun _ => rfl, actOk_writeAimRules⟩
  | defineLot => exact ⟨_, _, _, _, fun _ => rfl, actOk_defineLot⟩
  | makeCurrent => exact ⟨_, _, _, _, fun _ => rfl, actOk_makeCurrent⟩
  | retireLot => exact ⟨_, _, _, _, fun _ => rfl, actOk_retireLot⟩
  | clearLot => exact ⟨_, _, _, _, fun _ => rfl, actOk_clearLot⟩
  | writeCorrection => exact ⟨_, _, _, _, fun _ => rfl, fun _ => actOk_writeCorrection _ _ _⟩
  | adoptProposal => exact ⟨_, _, _, _, fun _ => rfl, actOk_adoptProposal⟩
  | closeDay => exact ⟨_, _, _, _, fun _ => rfl, fun _ => actOk_closeDay⟩
  | hold => exact ⟨_, _, _, _, fun _ => rfl, fun _ => actOk_hold _ _⟩
  | renew => exact ⟨_, _, _, _, fun _ => rfl, fun _ => actOk_renew _ _⟩
  | release => exact ⟨_, _, _, _, fun _ => rfl, actOk_release⟩
  | nextAlert => exact ⟨_, _, _, _, fun _ => rfl, fun _ => actOk_nextAlert⟩
  | ackAlert => exact ⟨_, _, _, _, fun _ => rfl, fun _ => actOk_ackAlert _ _⟩
  | setSubscription => exact ⟨_, _, _, _, fun _ => rfl, fun _ => actOk_setSubscription _⟩
  | getAttention => exact ⟨_, _, _, _, fun _ => rfl, fun _ => actOk_getAttention⟩
  | setAttention => exact ⟨_, _, _, _, fun _ => rfl, fun _ => actOk_setAttention _ _⟩
  | setReader => exact ⟨_, _, _, _, fun _ => rfl, actOk_setReader⟩
  | testReader => exact ⟨_, _, _, _, fun _ => rfl, actOk_testReader⟩
  | saveImage => exact ⟨_, _, _, _, fun _ => rfl, fun _ => actOk_saveImage⟩
  | setLock => exact ⟨_, _, _, _, fun _ => rfl, actOk_setLock⟩
  | resetPort => exact ⟨_, _, _, _, fun _ => rfl, fun _ => actOk_resetPort⟩
  | _ => exact ⟨_, _, _, _, fun _ => rfl, fun _ => actOk_of_ok fun _ _ => port_congr rfl rfl _⟩

/-- A row that does not carry out a command of R182 on its path: an event, RESTART, or an unknown code. -/
def isEvent : Instr → Bool
  | .powerOnReset .. | .characterComplete .. | .breakDetected _ | .framingCharacterReleased _ | .headReadyChange _
  | .consumeCharacter _ | .interCharacterTimeout _ | .holdClockExpiry _ | .replyCharacterSent _ | .testCharacterSent _
  | .evaluationTake | .consensusStep | .finalisationStep | .overdueStep | .countdownStep | .transferStep | .summary
  | .closeInEdge | .dayTimerTick | .dayTimerExpiry | .leaseTick _ | .leaseExpiry _ | .headerReadComplete | .loadEnd
  | .pageWriteComplete | .writeTimeout | .noAnswer | .commandSelection .. | .collectSelection .. | .restart ..
  | .unknownCommand _ | .selectionBegins _ | .returnToMarkAfterBreak _ | .closeOutPulseEnd => true
  | _ => false

/-- Every row is the row of a command, RESTART apart, or an event. -/
theorem command_or_event (i : Instr) :
    (∃ c p, c ≠ Command.restart ∧ i = c.row p 0 0) ∨ isEvent i = true := by
  cases i with
  | enrollLine p => exact .inl ⟨.enrollLine, p, by decide, rfl⟩
  | suspendLine p => exact .inl ⟨.suspendLine, p, by decide, rfl⟩
  | resumeLine p => exact .inl ⟨.resumeLine, p, by decide, rfl⟩
  | withdrawLine p => exact .inl ⟨.withdrawLine, p, by decide, rfl⟩
  | setLineAim p => exact .inl ⟨.setLineAim, p, by decide, rfl⟩
  | chemEvent p => exact .inl ⟨.chemEvent, p, by decide, rfl⟩
  | voidPoint p => exact .inl ⟨.voidPoint, p, by decide, rfl⟩
  | readLine p => exact .inl ⟨.readLine, p, by decide, rfl⟩
  | readPoint p => exact .inl ⟨.readPoint, p, by decide, rfl⟩
  | readDrift p => exact .inl ⟨.readDrift, p, by decide, rfl⟩
  | readAims p => exact .inl ⟨.readAims, p, by decide, rfl⟩
  | writeAim p => exact .inl ⟨.writeAim, p, by decide, rfl⟩
  | writeAimRules p => exact .inl ⟨.writeAimRules, p, by decide, rfl⟩
  | setPreload p => exact .inl ⟨.setPreload, p, by decide, rfl⟩
  | discardPending p => exact .inl ⟨.discardPending, p, by decide, rfl⟩
  | defineLot p => exact .inl ⟨.defineLot, p, by decide, rfl⟩
  | makeCurrent p => exact .inl ⟨.makeCurrent, p, by decide, rfl⟩
  | retireLot p => exact .inl ⟨.retireLot, p, by decide, rfl⟩
  | clearLot p => exact .inl ⟨.clearLot, p, by decide, rfl⟩
  | writeCorrection p => exact .inl ⟨.writeCorrection, p, by decide, rfl⟩
  | adoptProposal p => exact .inl ⟨.adoptProposal, p, by decide, rfl⟩
  | readLot p => exact .inl ⟨.readLot, p, by decide, rfl⟩
  | closeDay p => exact .inl ⟨.closeDay, p, by decide, rfl⟩
  | readDay p => exact .inl ⟨.readDay, p, by decide, rfl⟩
  | writeDesk p => exact .inl ⟨.writeDesk, p, by decide, rfl⟩
  | hold p => exact .inl ⟨.hold, p, by decide, rfl⟩
  | renew p => exact .inl ⟨.renew, p, by decide, rfl⟩
  | release p => exact .inl ⟨.release, p, by decide, rfl⟩
  | readHolds p => exact .inl ⟨.readHolds, p, by decide, rfl⟩
  | nextAlert p => exact .inl ⟨.nextAlert, p, by decide, rfl⟩
  | ackAlert p => exact .inl ⟨.ackAlert, p, by decide, rfl⟩
  | setSubscription p => exact .inl ⟨.setSubscription, p, by decide, rfl⟩
  | getAttention p => exact .inl ⟨.getAttention, p, by decide, rfl⟩
  | setAttention p => exact .inl ⟨.setAttention, p, by decide, rfl⟩
  | setReader p => exact .inl ⟨.setReader, p, by decide, rfl⟩
  | readReader p => exact .inl ⟨.readReader, p, by decide, rfl⟩
  | clearReaderFaults p => exact .inl ⟨.clearReaderFaults, p, by decide, rfl⟩
  | testReader p => exact .inl ⟨.testReader, p, by decide, rfl⟩
  | saveImage p => exact .inl ⟨.saveImage, p, by decide, rfl⟩
  | readStore p => exact .inl ⟨.readStore, p, by decide, rfl⟩
  | setLock p => exact .inl ⟨.setLock, p, by decide, rfl⟩
  | resetPort p => exact .inl ⟨.resetPort, p, by decide, rfl⟩
  | _ => exact .inr rfl

end Sys2Proof.Machine
end

-- ==== What an image that loads holds ====
section
/-! PROOFS. What the content check of a load (10 R175) lets through: the desk settings in their ranges, valid aim sets, lots
and lines as they stand right after a load, and no two entries that clash. -/
namespace Sys2Proof.Machine

/-- Every item of a table whose items all pass has passed. -/
theorem allPass_get {α : Type} {n : Nat} {f : Fin n → Option α} {t : Table α n} (h : allPass f = some t) (i : Fin n) :
    f i = some (t.get i) := by
  unfold allPass at h
  split at h <;> cases h
  simp

/-- A table whose items all pass is made of them. -/
theorem allPass_of_get {α : Type} {n : Nat} {f : Fin n → Option α} {t : Table α n} (h : ∀ i, f i = some (t.get i)) :
    allPass f = some t := by
  unfold allPass
  rw [dif_pos fun i => by rw [h i]; rfl]
  exact congrArg some (Table.ext fun i => by simp [h i])

/-- Two different items never stand in the relation. -/
theorem clash_eq_false {α : Type} {n : Nat} {t : Table (Option α) n} {r : α → α → Bool} :
    clash t r = false ↔ ∀ i j a b, i < j → t.get i = some a → t.get j = some b → r a b = false := by
  simp only [clash, List.any_eq_false, List.mem_finRange, true_implies, List.any_eq_true, true_and, not_exists,
    Bool.and_eq_true, decide_eq_true_eq, not_and, Bool.not_eq_true]
  constructor
  · intro h i j a b hij hi hj
    simpa [hi, hj] using h i j hij
  · intro h i j hij
    split
    · exact h i j _ _ hij ‹_› ‹_›
    · rfl

/-- The parts of a body that loads, each entry read. -/
theorem contentOf_parts {body : List Byte} {x : Image} (h : contentOf body = some x) :
    x.desk.inRange = true ∧ x.consistent = true ∧
    (∀ k, parseAimEntry (entryAt body 16 128 k.val) = some (x.aims.get k)) ∧
    (∀ k, parseLotEntry (entryAt body 2064 64 k.val) = some (x.lots.get k)) ∧
    ∀ n, parseLineEntry (entryAt body 3088 8 n.val) = some (x.lines.get n) := by
  unfold contentOf at h
  split at h
  · cases h
  · rename_i y hy
    split at h <;> cases h
    unfold parseBody at hy
    split at hy <;> cases hy
    rename_i desk aims lots lines hd ha hl hn hcons
    refine ⟨?_, hcons, allPass_get ha, allPass_get hl, allPass_get hn⟩
    unfold parseDeskEntry at hd
    split at hd
    · cases hd
    · split at hd <;> cases hd
      assumption

theorem parseAimEntry_some {bs : List Byte} {a : AimSet} (h : parseAimEntry bs = some (some a)) :
    a.active.valid = true ∧ a.pending = a.active := by
  unfold parseAimEntry at h
  split at h
  · split at h
    · cases h
    · cases h
    · obtain ⟨a', ha', rfl⟩ := Option.map_eq_some_iff.mp h |>.imp fun _ x => x.imp_right Option.some.inj
      unfold parseCarried at ha'
      split at ha'
      · split at ha' <;> cases ha'
        exact ⟨‹_›, rfl⟩
      · cases ha'
  · cases h

/-- A slot that loads is not RETIRING outside 1 to 7, and nothing waits at it. -/
theorem parseLotEntry_some {bs : List Byte} {l : Lot} (h : parseLotEntry bs = some (some l)) :
    l.waiting = Table.fill 12 none ∧ ∀ c, l.state = .retiring c → 1 ≤ c ∧ c ≤ 7 := by
  unfold parseLotEntry at h
  split at h
  · split at h
    · split at h
      · split at h <;> cases h
      · split at h
        · cases h
        · rename_i state hstate
          obtain ⟨l', hl', rfl⟩ := Option.map_eq_some_iff.mp h |>.imp fun _ x => x.imp_right Option.some.inj
          unfold parseLotFields at hl'
          split at hl'
          · split at hl' <;> cases hl'
            refine ⟨rfl, fun c hc => ?_⟩
            dsimp only at hc
            subst hc
            unfold parseLotState at hstate
            repeat' split at hstate
            all_goals cases hstate
            rename_i hr
            exact ⟨hr.2.1, hr.2.2⟩
          · cases hl'
    · cases h
  · cases h

/-- A line that loads is ENROLLED or SUSPENDED and fresh (R87). -/
theorem parseLineEntry_some {bs : List Byte} {c : LineCtx} (h : parseLineEntry bs = some (some c)) :
    ∃ st lab kind aim, c = LineCtx.fresh st lab kind aim := by
  unfold parseLineEntry at h
  split at h
  · split at h
    · cases h
    · cases h
    · obtain ⟨c', hc', rfl⟩ := Option.map_eq_some_iff.mp h |>.imp fun _ x => x.imp_right Option.some.inj
      unfold parseEnrolled at hc'
      split at hc'
      · split at hc' <;> cases hc'
        exact ⟨_, _, _, _, rfl⟩
      · cases hc'
  · cases h

/-- No two lines of an image have one key, no two slots one code or one kind while CURRENT, and each line's set has its
kind (R175). -/
theorem consistent_parts {x : Image} (h : x.consistent = true) :
    (∀ i j a b, i < j → x.lines.get i = some a → x.lines.get j = some b → ¬ (a.lab = b.lab ∧ a.kind = b.kind)) ∧
    (∀ i j a b, i < j → x.lots.get i = some a → x.lots.get j = some b →
      ¬ (a.state = .current ∧ b.state = .current ∧ a.kind = b.kind)) ∧
    (∀ i j a b, i < j → x.lots.get i = some a → x.lots.get j = some b → a.code ≠ b.code) ∧
    ∀ n c, x.lines.get n = some c → x.aimKind c.aim = c.kind := by
  simp only [Image.consistent, Bool.and_eq_true, Bool.not_eq_true', clash_eq_false] at h
  obtain ⟨⟨⟨hkeys, hcurrent⟩, hcodes⟩, hbound⟩ := h
  refine ⟨fun i j a b hij ha hb => ?_, fun i j a b hij ha hb => ?_, fun i j a b hij ha hb => ?_, fun n c hc => ?_⟩
  · simpa using hkeys i j a b hij ha hb
  · simpa [and_assoc] using hcurrent i j a b hij ha hb
  · simpa using hcodes i j a b hij ha hb
  · have hline := List.all_eq_true.mp hbound _ ((Table.mem_cells _ _).mpr ⟨n, rfl⟩)
    simpa [Image.lineBound, hc] using hline

/-- What a load that comes to its end does: it fails, and the tables stay, or it takes them from an image (R175, R176). -/
theorem loadEnd_cases (s : State) (c : Word16) :
    (∃ o, s.loadEnd c = s.endStore o) ∨
    ∃ x, contentOf (s.memory.readBytes bodyStart bodyLength) = some x ∧ s.loadEnd c = (s.restore x).endStore .loaded := by
  unfold State.loadEnd
  dsimp only
  split
  · exact .inl ⟨_, rfl⟩
  · split
    · exact .inl ⟨_, rfl⟩
    · exact .inr ⟨_, ‹_›, rfl⟩

/-- The row of a load's end acts while the body is read alone. -/
theorem exec_loadEnd_cases {s t : State} (h : exec .loadEnd s = .next t) :
    t = s ∨ s.store.loading = true ∧
      ((∃ o, t = s.endStore o) ∨
        ∃ x, contentOf (s.memory.readBytes bodyStart bodyLength) = some x ∧ t = (s.restore x).endStore .loaded) := by
  rw [← Host.Outcome.next.inj h]
  split
  · exact .inl rfl
  · rename_i c hc
    refine .inr ⟨by simp [Store.loading, hc], ?_⟩
    exact loadEnd_cases s c
  · exact .inl rfl
  · exact .inl rfl

end Sys2Proof.Machine
end

-- ==== The aim sets and the ports ====
section
/-! PROOFS. The law of the aim sets (05 R88) and the law of the two ports (09 R155 to R158). -/
namespace Sys2Proof.Machine

/-! ### The aim sets -/

/-- One set keeps R88: both parts valid, and equal with preload OFF. -/
def AimSet.lawful (a : AimSet) : Prop :=
  a.active.valid = true ∧ a.pending.valid = true ∧ (a.preload = false → a.active = a.pending)

namespace AimSet
variable {a : AimSet}

/-- A set that a load carried (R100). -/
theorem lawful_of_eq (hv : a.active.valid = true) (he : a.pending = a.active) : a.lawful :=
  ⟨hv, he ▸ hv, fun _ => he.symm⟩

theorem default_lawful : AimSet.default.lawful := lawful_of_eq (by decide) rfl

/-- A write whose target part stays valid keeps the law (R91, R92). -/
theorem edit_lawful {f : AimPart → AimPart} (h : a.lawful) (hf : (f a.target).valid = true) (kind : ProcessKind) :
    ({ a.edit f with kind := kind } : AimSet).lawful := by
  obtain ⟨hactive, hpending, heq⟩ := h
  cases hp : a.preload with
  | true =>
    simp only [target, hp, if_true] at hf
    simp only [edit, hp, if_true]
    exact ⟨hactive, hf, fun hoff => nomatch hoff⟩
  | false =>
    simp only [target, hp, Bool.false_eq_true, if_false] at hf
    simp only [edit, hp, Bool.false_eq_true, if_false]
    exact ⟨hf, heq hp ▸ hf, fun _ => congrArg f (heq hp)⟩

theorem setPreload_lawful (h : a.lawful) (mode : Bool) : (a.setPreload mode).lawful := by
  obtain ⟨hactive, hpending, heq⟩ := h
  unfold setPreload
  split
  · exact ⟨hpending, hpending, fun _ => rfl⟩
  · rename_i hc
    refine ⟨hactive, hpending, fun hoff => heq ?_⟩
    dsimp only at hoff
    simpa [hoff] using hc

theorem discard_lawful (h : a.lawful) : a.discard.lawful := lawful_of_eq h.1 rfl

theorem transferred_lawful (h : a.lawful) : ({ a with active := a.pending } : AimSet).lawful := lawful_of_eq h.2.1 rfl
end AimSet

theorem AimsOk.of_eq {s t : State} (h : t.aims = s.aims) (hs : AimsOk s) : AimsOk t := by
  unfold AimsOk State.aim; rw [h]; exact hs

theorem AimsOk.setAim {s t : State} {k : Fin 16} {a : AimSet} (hs : AimsOk s) (ha : a.lawful)
    (h : t.aims = s.aims.set k a) : AimsOk t := by
  intro j
  simp only [State.aim, h, Table.get_set]
  split
  · exact ha
  · exact hs j

theorem AimsOk.reset (s : State) (ready : BitVec 4) (straps : BitVec 3) (level : Nat) :
    AimsOk (s.resetWhole ready straps level) := by
  intro k
  simp only [State.aim, State.resetWhole, Table.get_fill]
  exact AimSet.default_lawful

theorem AimsOk.transferSet {s : State} (hs : AimsOk s) (k : Fin 16) : AimsOk (s.transferSet k) := by
  unfold State.transferSet
  dsimp only
  split
  · exact hs
  · split
    · exact hs.of_eq rfl
    · exact hs.setAim (AimSet.transferred_lawful (hs k)) rfl

theorem AimsOk.transferSlot {s : State} (hs : AimsOk s) (k : Fin 16) : AimsOk (s.transferSlot k) := by
  unfold State.transferSlot
  repeat' split
  all_goals exact hs.of_eq rfl

theorem AimsOk.restore {s : State} {x : Image} {body : List Byte} (hs : AimsOk s) (hx : contentOf body = some x) :
    AimsOk (s.restore x) := by
  intro k
  obtain ⟨_, _, haims, _, _⟩ := contentOf_parts hx
  simp only [State.aim, State.restore, Table.get_ofFn]
  cases ha : x.aims.get k with
  | none => exact hs k
  | some a =>
    obtain ⟨hv, he⟩ := parseAimEntry_some ((haims k).trans (congrArg some ha))
    exact AimSet.lawful_of_eq hv he

theorem exec_keeps_aims (c : Instr) (s t : State) (h : exec c s = .next t) (hs : AimsOk s) : AimsOk t := by
  by_cases hw : (writes c).contains .aims = false
  · exact hs.of_eq ((exec_frame h).aims hw)
  · have hans : ∀ (u : State) p code st data, AimsOk u → AimsOk (u.answer p code st data) :=
      fun u p code st data hu => hu.of_eq (State.answer_aims ..)
    cases c with
    | powerOnReset ready straps => rw [← Host.Outcome.next.inj h]; exact .reset _ _ _ _
    | restart p ready straps =>
      rw [← Host.Outcome.next.inj h]
      split
      · exact hs
      · exact hans _ _ _ _ _ hs
      · exact .reset _ _ _ _
    | transferStep =>
      rw [← Host.Outcome.next.inj h]
      split
      · exact (hs.transferSet _).of_eq rfl
      · exact (hs.transferSlot _).of_eq rfl
      · exact hs
    | loadEnd =>
      obtain rfl | ⟨_, ⟨o, rfl⟩ | ⟨x, hx, rfl⟩⟩ := exec_loadEnd_cases h
      · exact hs
      · exact hs.of_eq rfl
      · exact (hs.restore hx).of_eq rfl
    | writeAim p =>
      rw [← Host.Outcome.next.inj h]
      refine runCommand_keeps AimsOk (fun t _ _ _ => hans t p _ _ _) hs fun bs a s' st d _ _ _ hact => ?_
      obtain ⟨hv, rfl⟩ := writeAimAct_done hact
      refine hs.setAim ?_ rfl
      have hedit := AimSet.edit_lawful (f := fun q => q.putValue a.2.1 a.2.2) (hs a.1) hv
      have hkind : ∀ f, ((s.aim a.1).edit f).kind = (s.aim a.1).kind := fun f => by unfold AimSet.edit; split <;> rfl
      simpa only [← hkind] using hedit ((s.aim a.1).edit fun q => q.putValue a.2.1 a.2.2).kind
    | writeAimRules p =>
      rw [← Host.Outcome.next.inj h]
      refine runCommand_keeps AimsOk (fun t _ _ _ => hans t p _ _ _) hs fun bs a s' st d _ _ _ hact => ?_
      obtain ⟨hv, _, rfl⟩ := writeAimRulesAct_done hact
      exact hs.setAim (AimSet.edit_lawful (f := fun q => q.putRules a.run a.slope a.settling) (hs a.set) hv _) rfl
    | setPreload p =>
      rw [← Host.Outcome.next.inj h]
      refine runCommand_keeps AimsOk (fun t _ _ _ => hans t p _ _ _) hs fun bs a s' st d _ _ _ hact => ?_
      rw [← (Answer.done.inj hact).1]
      exact hs.setAim (AimSet.setPreload_lawful (hs a.1) a.2) rfl
    | discardPending p =>
      rw [← Host.Outcome.next.inj h]
      refine runCommand_keeps AimsOk (fun t _ _ _ => hans t p _ _ _) hs fun bs a s' st d _ _ _ hact => ?_
      rw [← (Answer.done.inj hact).1]
      exact hs.setAim (AimSet.discard_lawful (hs a)) rfl
    | setLock p =>
      rw [← Host.Outcome.next.inj h]
      refine runCommand_keeps AimsOk (fun t _ _ _ => hans t p _ _ _) hs fun bs a s' st d _ _ _ hact k => ?_
      obtain ⟨_, rfl⟩ := setLockAct_done hact
      simp only [State.aim, Table.get_map]
      exact AimSet.discard_lawful (hs k)
    | _ => exact absurd rfl hw

/-- Settles O54: every write is validated on the part it makes, and every copy makes the parts equal. -/
theorem stepKeepsAimSets : Obligations.StepKeepsAimSets :=
  fun _ _ h hs => step_keeps (fun _ _ h => h) exec_keeps_aims h hs

/-! ### The ports -/

/-- The law of a port speaks of its buffer and its selection alone. -/
theorem PortUnit.ok.congr {u v : PortUnit} (h1 : v.executing = u.executing) (h2 : v.response = u.response)
    (h3 : v.selection = u.selection) (hu : u.ok) : v.ok := by
  unfold PortUnit.ok; rw [h1, h2, h3]; exact hu

theorem PortUnit.ok.setFlag {u : PortUnit} (hu : u.ok) (c : Cause) (b : Bool) : (u.setFlag c b).ok := by
  obtain ⟨h1, h2, h3, _⟩ := u.setFlag_frame c b
  exact hu.congr h1 h2 h3

/-- A port without a selection in progress: a command in execution has no response beside it. -/
theorem PortUnit.ok_unselected {u : PortUnit} (h : u.selection = none) (hx : u.executing.isSome = true → u.response = none) :
    u.ok := ⟨hx, fun x hx' => by rw [h] at hx'; cases hx'⟩

theorem PortUnit.ok_afterReset (u : PortUnit) : u.afterReset.ok := by
  refine ⟨fun h => (nomatch h), fun x hx => ⟨fun _ => rfl, fun _ => rfl, fun _ hd => ?_⟩⟩
  obtain ⟨y, _, rfl⟩ := Option.map_eq_some_iff.mp hx
  cases hd

theorem portsOk_iff {s : State} : PortsOk s ↔ ∀ q, (s.port q).ok :=
  ⟨fun h q => match q with | .mp0 => h.1 | .mp1 => h.2, fun h => ⟨h .mp0, h .mp1⟩⟩

theorem PortsOk.of_eq {s t : State} (h0 : t.mp0 = s.mp0) (h1 : t.mp1 = s.mp1) (hs : PortsOk s) : PortsOk t := by
  unfold PortsOk; rw [h0, h1]; exact hs

/-- A port that takes a lawful value, the other port staying. -/
theorem PortsOk.of_port {s t : State} (p : Port) (hother : t.port (otherPort p) = s.port (otherPort p))
    (hp : (t.port p).ok) (hs : PortsOk s) : PortsOk t := by
  have ho : (t.port (otherPort p)).ok := by rw [hother]; exact portsOk_iff.mp hs _
  cases p with
  | mp0 => exact And.intro hp ho
  | mp1 => exact And.intro ho hp

theorem PortsOk.setPort {s : State} {p : Port} {u : PortUnit} (hs : PortsOk s) (hu : u.ok) : PortsOk (s.setPort p u) :=
  hs.of_port p (State.setPort_port_other ..) (by rw [State.setPort_port]; exact hu)

theorem PortsOk.raise {s t : State} {c : Cause} (hs : PortsOk s) (h0 : t.mp0 = s.mp0.setFlag c true)
    (h1 : t.mp1 = s.mp1.setFlag c true) : PortsOk t := by
  unfold PortsOk; rw [h0, h1]; exact ⟨hs.1.setFlag c true, hs.2.setFlag c true⟩

/-- A port that answers has a response and nothing in execution, whatever selection is in progress. -/
theorem PortUnit.ok_answered (u : PortUnit) (r : Response) :
    ({ u with executing := none, response := some r } : PortUnit).ok :=
  ⟨fun h => (nomatch h), fun _ _ => ⟨fun _ => rfl, fun _ => rfl, fun _ _ => rfl⟩⟩

theorem PortsOk.answer {s u : State} {p : Port} (hs : PortsOk s) (hother : u.port (otherPort p) = s.port (otherPort p))
    (code : Byte) (st : Status) (data : List Byte) : PortsOk (u.answer p code st data) :=
  hs.of_port p ((State.answer_port_other ..).trans hother) (by rw [State.answer_port]; exact PortUnit.ok_answered _ _)

/-- A command leaves the ports lawful: it answers at its own port and keeps the other. -/
theorem row_keeps_ports {c : Command} (hc : c ≠ .restart) (p : Port) {s t : State}
    (h : exec (c.row p 0 0) s = .next t) (hs : PortsOk s) : PortsOk t := by
  obtain ⟨α, parse, item, act, hrow, hact⟩ := row_runCommand hc p 0 0
  rw [← Host.Outcome.next.inj ((hrow s).symm.trans h)]
  obtain he | ⟨_, st, _, he⟩ | ⟨_, a, s', st, data, _, _, _, hdone, he⟩ := runCommand_cases
    (c := c) (p := p) (s := s) (parse := parse) (item := item) (act := act) <;> rw [he]
  · exact hs
  · exact hs.answer rfl ..
  · exact hs.answer (hact a s s' st data hdone).2 ..

theorem PortUnit.ok.finish {u : PortUnit} (hu : u.ok) (out : List Byte) : (u.finish out).ok := ok_unselected rfl hu.1

/-- A selection that ends without a command in execution takes a frame or refuses it. -/
theorem PortUnit.ok_judge {u : PortUnit} (hsel : u.selection = none) (hx : u.executing = none) (bytes : List Byte) :
    (u.judge bytes).ok := by
  unfold judge
  split
  · exact ok_unselected hsel fun _ => rfl
  · exact ok_unselected hsel fun h => by simp [hx] at h

theorem endCommand_ok {u : PortUnit} {sel : Selection} (hu : u.ok) (hsel : u.selection = some sel) (bytes : List Byte) :
    (endCommand u sel bytes).ok := by
  obtain ⟨_, hx⟩ := id hu
  obtain ⟨hready, _, _⟩ := hx sel hsel
  unfold endCommand
  dsimp only
  split
  · exact hu.finish _
  · split
    · exact hu.finish _
    · rename_i he; exact PortUnit.ok_judge (u := u.finish _) rfl (hready (by simp [he])) _
    · rename_i he; exact PortUnit.ok_judge (u := u.finish _) rfl (hready (by simp [he])) _

theorem collect_ok {u : PortUnit} (hu : u.ok) (frame : List Byte) (n : Nat) : (u.collect frame n).ok := by
  unfold PortUnit.collect
  dsimp only
  split
  · exact PortUnit.ok_unselected rfl fun _ => rfl
  · exact hu.finish _

theorem PortsOk.endSelection {s : State} (hs : PortsOk s) (p : Port) (collect : Bool) (bytes : List Byte) (n : Nat) :
    PortsOk (s.endSelection p collect bytes n) := by
  have hu := portsOk_iff.mp hs p
  unfold State.endSelection
  split
  · exact hs
  · rename_i sel hsel
    split
    · exact hs.setPort (hu.finish _)
    · split
      · unfold State.endCollect
        dsimp only
        split
        · exact hs.setPort (hu.finish _)
        · exact hs.setPort (hu.finish _)
        · split
          · exact (hs.setPort (p := p) (hu.finish _)).of_eq rfl rfl
          · split
            · exact hs.setPort (collect_ok hu _ _)
            · exact hs.setPort (collect_ok hu _ _)
      · exact hs.setPort (endCommand_ok hu hsel _)

theorem PortsOk.reset (s : State) (ready : BitVec 4) (straps : BitVec 3) (level : Nat) :
    PortsOk (s.resetWhole ready straps level) := ⟨PortUnit.ok_afterReset _, PortUnit.ok_afterReset _⟩

theorem PortsOk.nakFrame {s : State} (hs : PortsOk s) (rl : Fin 4) (c : Nak) (lab : Option Nat) :
    PortsOk (s.nakFrame rl c lab) := hs.raise (c := .reader) rfl rfl

theorem PortsOk.consumeOnWire {s : State} (hs : PortsOk s) (rl : Fin 4) (c : FifoChar) :
    PortsOk (s.consumeOnWire rl c) := by
  unfold State.consumeOnWire State.completeFrame
  dsimp only
  repeat' split
  all_goals first | exact hs.nakFrame _ _ _ | exact hs.of_eq rfl rfl

theorem PortsOk.grantTo {s : State} (hs : PortsOk s) (rls : List (Fin 4)) : PortsOk (grantTo rls s) := by
  induction rls generalizing s with
  | nil => exact hs.of_eq rfl rfl
  | cons rl rest ih =>
    unfold Machine.grantTo
    split
    · split
      · exact hs.of_eq rfl rfl
      · exact ih (hs.nakFrame _ _ _)
    · exact ih hs
    · exact ih hs

theorem PortsOk.takeRecord {s : State} (hs : PortsOk s) (rec : StripRecord) (rest : List StripRecord) :
    PortsOk (s.takeRecord rec rest) := by
  have hq : PortsOk { s with queue := rest } := hs.of_eq rfl rfl
  have hg : PortsOk (State.grant { s with queue := rest }) := hq.grantTo _
  unfold State.takeRecord State.evaluate
  split
  · exact hg.raise (c := .reader) rfl rfl
  · have hq := State.offerAll_quiet
    exact hg.of_eq (quiet_port (hq _ _) .mp0) (quiet_port (hq _ _) .mp1)

theorem PortsOk.endStore {s : State} (hs : PortsOk s) (o : LastOutcome) : PortsOk (s.endStore o) :=
  hs.raise (c := .store) rfl rfl

theorem PortsOk.endSave {s : State} (hs : PortsOk s) (o : LastOutcome) : PortsOk (s.endSave o) := by
  unfold State.endSave
  exact (hs.endStore o).of_eq (State.resumeTransfer_mp0 _) (State.resumeTransfer_mp1 _)

theorem PortsOk.expireLease {s : State} (hs : PortsOk s) (x : Hold) : PortsOk (s.expireLease x) := by
  have hs' : PortsOk { s with holds := freeItem s.holds x.item } := hs.of_eq rfl rfl
  exact hs'.setPort ((portsOk_iff.mp hs' _).setFlag _ _)

theorem exec_keeps_ports (c : Instr) (s t : State) (h : exec c s = .next t) (hs : PortsOk s) : PortsOk t := by
  by_cases hw : (writes c).contains .ports = false
  · exact hs.of_eq ((exec_frame h).mp0 hw) ((exec_frame h).mp1 hw)
  · obtain ⟨c, p, hc, rfl⟩ | hev := command_or_event c
    · exact row_keeps_ports hc p h hs
    cases c with
    | powerOnReset ready straps => rw [← Host.Outcome.next.inj h]; exact .reset _ _ _ _
    | restart p ready straps =>
      rw [← Host.Outcome.next.inj h]
      split
      · exact hs
      · exact hs.answer rfl ..
      · exact .reset _ _ _ _
    | consumeCharacter rl =>
      rw [← Host.Outcome.next.inj h]
      repeat' split
      · exact hs
      · exact hs.of_eq rfl rfl
      · refine PortsOk.consumeOnWire ?_ _ _
        exact hs.of_eq rfl rfl
      · exact hs
    | interCharacterTimeout rl =>
      rw [← Host.Outcome.next.inj h]
      repeat' split
      · exact hs.of_eq rfl rfl
      · exact hs.nakFrame _ _ _
      · exact hs
    | holdClockExpiry rl =>
      rw [← Host.Outcome.next.inj h]
      repeat' split
      · exact (hs.nakFrame _ _ _).of_eq rfl rfl
      all_goals exact hs
    | evaluationTake =>
      rw [← Host.Outcome.next.inj h]
      repeat' split
      · exact hs
      · have ht := PortsOk.takeRecord (s := { s with drain := s.drain - 1 }) (hs.of_eq rfl rfl) ‹_› ‹_›
        unfold State.endDrain
        split
        · exact ht.of_eq rfl rfl
        · exact ht
      · exact hs.takeRecord _ _
      · exact hs
    | summary =>
      rw [← Host.Outcome.next.inj h]
      split
      · exact hs.raise (c := .close) rfl rfl
      · exact hs
    | leaseTick i | leaseExpiry i =>
      rw [← Host.Outcome.next.inj h]
      repeat' split
      all_goals first | exact hs.expireLease _ | exact hs.of_eq rfl rfl
    | headerReadComplete =>
      rw [← Host.Outcome.next.inj h]
      unfold State.headerRead
      repeat' split
      all_goals first | exact hs.endStore _ | exact hs.of_eq rfl rfl
    | loadEnd =>
      obtain rfl | ⟨_, ⟨o, rfl⟩ | ⟨x, _, rfl⟩⟩ := exec_loadEnd_cases h
      · exact hs
      · exact hs.endStore _
      · refine PortsOk.endStore ?_ _
        exact hs.of_eq rfl rfl
    | pageWriteComplete =>
      rw [← Host.Outcome.next.inj h]
      unfold State.pageWritten
      repeat' split
      case h_3.isFalse =>
        refine PortsOk.endSave ?_ _
        exact hs.of_eq rfl rfl
      all_goals exact hs.of_eq rfl rfl
    | writeTimeout | noAnswer =>
      rw [← Host.Outcome.next.inj h]
      split
      all_goals first | exact hs.endSave _ | exact hs.endStore _ | exact hs
    | commandSelection p bytes | collectSelection p n =>
      rw [← Host.Outcome.next.inj h]; exact hs.endSelection ..
    | selectionBegins p =>
      rw [← Host.Outcome.next.inj h]
      split
      · exact hs
      · refine hs.setPort ⟨(portsOk_iff.mp hs p).1, ?_⟩
        rintro x ⟨rfl⟩
        unfold PortUnit.stateNow
        cases he : (s.port p).executing <;> cases hr : (s.port p).response <;> simp
    | unknownCommand p =>
      rw [← Host.Outcome.next.inj h]
      repeat' split
      · exact hs
      · exact hs
      · exact hs.answer rfl ..
    | _ => first | exact absurd rfl hw | cases hev

/-- Settles O59: a response follows an execution, and a selection that found none in execution finds none at its end. -/
theorem stepKeepsPorts : Obligations.StepKeepsPorts :=
  fun _ _ h hs => step_keeps (fun _ _ h => h) exec_keeps_ports h hs

end Sys2Proof.Machine
end

-- ==== While the store is LOADING ====
section
/-! PROOFS. The law of a load in progress (09 R160, 10 R174): no command acts, and no event finds anything to change. -/
namespace Sys2Proof.Machine

/-- The part is fresh: the tables, the queue, the day, the alerts and the holds are at their values after reset. -/
def State.fresh (s : State) : Prop :=
  s.queue = [] ∧ s.drain = 0 ∧ s.labMap = [] ∧ s.lines = Table.fill 96 none ∧ s.aims = Table.fill 16 AimSet.default ∧
  s.lots = Table.fill 16 none ∧ s.day = DayUnit.reset ∧ s.alerts = [] ∧ s.holds = []

theorem loadingOk_iff {s : State} : LoadingOk s ↔ (s.store.loading = true → s.fresh) := Iff.rfl

/-- A state that is not LOADING keeps the law. -/
theorem LoadingOk.of_idle {s : State} (h : s.store.loading = false) : LoadingOk s := fun hl => by rw [h] at hl; cases hl

/-- The parts the law speaks of. -/
def loadingParts : List Part :=
  [.queue, .drain, .labMap, .lines, .waiting, .aims, .lots, .day, .alerts, .holds, .store]

theorem LoadingOk.of_frame {ws : List Part} {s t : State} (hf : Frame ws s t) (hs : LoadingOk s)
    (hw : ∀ x ∈ loadingParts, ws.contains x = false) : LoadingOk t := by
  unfold LoadingOk
  rw [hf.queue (hw _ (by decide)), hf.drain (hw _ (by decide)), hf.labMap (hw _ (by decide)),
    hf.lines (hw _ (by decide)) (hw _ (by decide)), hf.aims (hw _ (by decide)),
    hf.lots (hw _ (by decide)) (hw _ (by decide)), hf.day (hw _ (by decide)), hf.alerts (hw _ (by decide)),
    hf.holds (hw _ (by decide)), hf.store (hw _ (by decide))]
  exact hs

theorem LoadingOk.answer {s : State} (hs : LoadingOk s) (p : Port) (code : Byte) (st : Status) (data : List Byte) :
    LoadingOk (s.answer p code st data) := hs.of_frame (.answer ..) (by decide)

/-- Only SAVE-IMAGE among the commands writes the store, and it begins a save. -/
theorem row_store_loading {c : Command} (hc : c ≠ .restart) (p : Port) {s t : State}
    (h : exec (c.row p 0 0) s = .next t) : t.store.loading = true → s.store.loading = true := by
  by_cases hw : (writes (c.row p 0 0)).contains .store = false
  · rw [(exec_frame h).store hw]; exact id
  · cases c with
    | restart => exact absurd rfl hc
    | saveImage =>
      rw [← Host.Outcome.next.inj h]
      refine runCommand_keeps (fun t => t.store.loading = true → s.store.loading = true) ?_ id ?_
      · intro t code st d ht; simpa using ht
      · intro _ a s' st d _ _ _ hact hl
        obtain ⟨_, _, rfl⟩ := saveImageAct_done hact
        cases hl
    | _ => exact absurd rfl hw

/-- A command that acts finds the store not LOADING, READ-STORE apart, which changes nothing (R160). -/
theorem row_keeps_loading {c : Command} (hc : c ≠ .restart) (p : Port) {s t : State}
    (h : exec (c.row p 0 0) s = .next t) (hs : LoadingOk s) : LoadingOk t := by
  by_cases hl : s.store.loading = true
  · by_cases hr : c = .readStore
    · subst hr
      cases p <;> exact hs.of_frame (exec_frame h) (by decide)
    · obtain ⟨α, parse, item, act, hrow, _⟩ := row_runCommand hc p 0 0
      rw [← Host.Outcome.next.inj ((hrow s).symm.trans h)]
      obtain he | ⟨_, st, _, he⟩ | ⟨_, a, s', st, data, _, _, hok, _, _⟩ := runCommand_cases
        (c := c) (p := p) (s := s) (parse := parse) (item := item) (act := act)
      · rw [he]; exact hs
      · rw [he]; exact hs.answer _ _ _ _
      · exact absurd (hok.1 hl) hr
  · refine .of_idle ?_
    have := row_store_loading hc p h
    cases ht : t.store.loading with
    | false => rfl
    | true => exact absurd (this ht) hl

theorem LoadingOk.reset (s : State) (ready : BitVec 4) (straps : BitVec 3) (level : Nat) :
    LoadingOk (s.resetWhole ready straps level) := fun _ => ⟨rfl, rfl, rfl, rfl, rfl, rfl, rfl, rfl, rfl⟩

theorem endStore_loading (s : State) (o : LastOutcome) : (s.endStore o).store.loading = false := rfl

theorem endSave_loading (s : State) (o : LastOutcome) : (s.endSave o).store.loading = false := by
  unfold State.endSave; rw [State.resumeTransfer_store]; rfl

/-- No frame is appended or held while LOADING: a complete frame is refused (step 5 of R25). -/
theorem judgeFrame_loading {s : State} (h : s.store.loading = true) (rl : Fin 4) (bs : List Byte) :
    ∃ c lab, judgeFrame s rl bs = .nak c lab := by
  unfold judgeFrame
  split
  · exact ⟨_, _, rfl⟩
  · split
    · split
      · exact ⟨.notReady, some _, by simp [judgeStrip, h]; rfl⟩
      · exact ⟨_, _, rfl⟩
    · split
      · exact ⟨.notReady, none, by simp [judgeCal, h]⟩
      · exact ⟨_, _, rfl⟩

/-- A character consumed while LOADING reaches neither the queue nor the arbiter's order. -/
theorem consumeOnWire_loading {s : State} (h : s.store.loading = true) (rl : Fin 4) (c : FifoChar) :
    Frame [.readers, .ports] s (s.consumeOnWire rl c) := by
  unfold State.consumeOnWire State.completeFrame
  dsimp only
  split
  · exact .refl
  · exact .of_patch rfl
  · rename_i bs _
    obtain ⟨code, lab, hj⟩ := judgeFrame_loading h rl (bs ++ [c.data])
    rw [hj]
    dsimp only
    repeat' split
    all_goals exact .of_patch rfl

theorem exec_keeps_loading (i : Instr) (s t : State) (h : exec i s = .next t) (hs : LoadingOk s) : LoadingOk t := by
  obtain ⟨c, p, hc, rfl⟩ | hev := command_or_event i
  · exact row_keeps_loading hc p h hs
  by_cases hl : s.store.loading = true
  · obtain ⟨hqueue, hdrain, hmap, hlines, haims, hlots, hday, halerts, hholds⟩ := hs hl
    cases i with
    | powerOnReset ready straps => rw [← Host.Outcome.next.inj h]; exact .reset _ _ _ _
    | restart p ready straps =>
      rw [← Host.Outcome.next.inj h]
      split
      · exact hs
      · exact hs.answer _ _ _ _
      · exact .reset _ _ _ _
    | consumeCharacter rl =>
      rw [← Host.Outcome.next.inj h]
      repeat' split
      · exact hs
      · exact hs.of_frame (ws := [.readers]) (.of_patch rfl) (by decide)
      · refine LoadingOk.of_frame (consumeOnWire_loading ?_ _ _) ?_ (by decide)
        · exact hl
        · exact hs.of_frame (ws := [.readers]) (.of_patch rfl) (by decide)
      · exact hs
    | evaluationTake =>
      have ht : s.takes = false := by simp [State.takes, hday, DayUnit.reset, hqueue]
      rw [← Host.Outcome.next.inj h, ht]; exact hs
    | consensusStep | finalisationStep | overdueStep | countdownStep | transferStep | summary =>
      rw [← Host.Outcome.next.inj h, hday]; exact hs
    | closeInEdge => rw [← Host.Outcome.next.inj h, hday]; exact hs
    | dayTimerExpiry => rw [← Host.Outcome.next.inj h, hday]; exact hs
    | dayTimerTick => rw [← Host.Outcome.next.inj h, hl]; exact hs
    | closeOutPulseEnd =>
      rw [← Host.Outcome.next.inj h]
      exact fun _ => ⟨hqueue, hdrain, hmap, hlines, haims, hlots, by rw [State.setDay_day, hday]; rfl, halerts, hholds⟩
    | leaseTick i | leaseExpiry i =>
      have hnone : s.holdOn i = none := by simp [State.holdOn, hholds]
      rw [← Host.Outcome.next.inj h, hnone]; exact hs
    | headerReadComplete =>
      rw [← Host.Outcome.next.inj h]
      unfold State.headerRead
      repeat' split
      · exact .of_idle rfl
      · exact fun _ => hs hl
      all_goals exact hs
    | loadEnd =>
      obtain rfl | ⟨_, ⟨o, rfl⟩ | ⟨x, _, rfl⟩⟩ := exec_loadEnd_cases h
      · exact hs
      · exact .of_idle rfl
      · exact .of_idle rfl
    | pageWriteComplete =>
      rw [← Host.Outcome.next.inj h]
      split
      case h_3 hp => simp [Store.loading, hp] at hl
      all_goals exact hs
    | writeTimeout | noAnswer =>
      rw [← Host.Outcome.next.inj h]
      split
      all_goals first | exact .of_idle (endSave_loading _ _) | exact .of_idle rfl | exact hs
    | characterComplete | breakDetected | framingCharacterReleased | headReadyChange | interCharacterTimeout
    | holdClockExpiry | replyCharacterSent | testCharacterSent | commandSelection | collectSelection | unknownCommand
    | selectionBegins | returnToMarkAfterBreak =>
      exact hs.of_frame (exec_frame h) (by simp [loadingParts, writes])
    | _ => cases hev
  · have hidle : s.store.loading = false := Bool.eq_false_of_not_eq_true hl
    by_cases hw : (writes i).contains .store = false
    · exact .of_idle ((exec_frame h).store hw ▸ hidle)
    · cases i with
      | powerOnReset ready straps => rw [← Host.Outcome.next.inj h]; exact .reset _ _ _ _
      | restart p ready straps =>
        rw [← Host.Outcome.next.inj h]
        split
        · exact hs
        · exact hs.answer _ _ _ _
        · exact .reset _ _ _ _
      | headerReadComplete =>
        rw [← Host.Outcome.next.inj h]
        split
        · simp [Store.loading, *] at hidle
        all_goals exact hs
      | loadEnd =>
        obtain rfl | ⟨hl', _⟩ := exec_loadEnd_cases h
        · exact hs
        · exact absurd hl' hl
      | pageWriteComplete =>
        rw [← Host.Outcome.next.inj h]
        unfold State.pageWritten
        repeat' split
        case h_3.isTrue => exact .of_idle (by simpa [Store.loading] using hidle)
        case h_3.isFalse => exact .of_idle (endSave_loading _ _)
        all_goals exact hs
      | writeTimeout | noAnswer =>
        rw [← Host.Outcome.next.inj h]
        split
        all_goals first | exact .of_idle (endSave_loading _ _) | exact .of_idle rfl | exact hs
      | _ => first | exact absurd rfl hw | cases hev

/-- Settles O52: a load in progress finds every table fresh, since only a reset begins one. -/
theorem stepKeepsLoadingFresh : Obligations.StepKeepsLoadingFresh :=
  fun _ _ h hs => step_keeps (fun _ _ h => h) exec_keeps_loading h hs

end Sys2Proof.Machine
end

-- ==== The lab map and the bindings ====
section
/-! PROOFS. The lab map stays one-to-one with the lines that are not UNUSED, and every line's aim set has its kind
(04 R62, R63). -/
namespace Sys2Proof.Machine

/-! ### What names a line -/

/-- What the lab map and the bindings speak of: a line's lab id, process kind and aim set. -/
def LineCtx.ident (c : LineCtx) : Nat × ProcessKind × Fin 16 := (c.lab, c.kind, c.aim)

/-- A line's key in the lab map (R62). -/
def LineCtx.key (c : LineCtx) : Nat × ProcessKind := (c.lab, c.kind)

/-- The lines' identities, none for an UNUSED one. -/
def State.idents (s : State) : Table (Option (Nat × ProcessKind × Fin 16)) 96 := s.lines.map (Option.map LineCtx.ident)

/-- The lines' keys, none for an UNUSED one. -/
def State.keys (s : State) : Table (Option (Nat × ProcessKind)) 96 := s.lines.map (Option.map LineCtx.key)

/-- The sets' process kinds. -/
def State.aimKinds (s : State) : Table ProcessKind 16 := s.aims.map AimSet.kind

theorem State.get_keys (s : State) (n : Fin 96) : s.keys.get n = (s.line n).map LineCtx.key := Table.get_map ..

theorem State.get_idents (s : State) (n : Fin 96) : s.idents.get n = (s.line n).map LineCtx.ident := Table.get_map ..

/-- Identities that stay leave the keys. -/
theorem keys_of_idents {s t : State} (h : t.idents = s.idents) : t.keys = s.keys := by
  have hcomp : ∀ u : State, u.keys = u.idents.map (Option.map fun x => (x.1, x.2.1)) := fun u => by
    apply Table.ext; intro n
    rw [State.get_keys, Table.get_map, State.get_idents, Option.map_map]; rfl
  rw [hcomp t, hcomp s, h]

theorem idents_of_bareLines {s t : State} (h : t.bareLines = s.bareLines) : t.idents = s.idents := by
  have hcomp : ∀ u : State, u.idents = u.bareLines.map (Option.map LineCtx.ident) := fun u => by
    apply Table.ext; intro n
    rw [State.get_idents, Table.get_map, State.bareLines, Table.get_map, Option.map_map]; rfl
  rw [hcomp t, hcomp s, h]

theorem aimKinds_of_aims {s t : State} (h : t.aims = s.aims) : t.aimKinds = s.aimKinds := by
  unfold State.aimKinds; rw [h]

theorem idents_of_quiet {s t : State} (h : t.quiet = s.quiet) : t.idents = s.idents :=
  idents_of_bareLines ((Frame.of_quiet h).bareLines rfl)

theorem idents_setLine {s : State} {n : Fin 96} {c c' : LineCtx} (hc : s.line n = some c) (h : c'.ident = c.ident) :
    (s.setLine n (some c')).idents = s.idents :=
  Table.map_set_same _ _ _ _ (by rw [show s.lines.get n = some c from hc]; simp [h])

theorem keys_setLine {s : State} {n : Fin 96} {c c' : LineCtx} (hc : s.line n = some c) (h : c'.key = c.key) :
    (s.setLine n (some c')).keys = s.keys :=
  Table.map_set_same _ _ _ _ (by rw [show s.lines.get n = some c from hc]; simp [h])

theorem aimKinds_setAim {s : State} {k : Fin 16} {a : AimSet} (h : a.kind = (s.aim k).kind) :
    (s.setAim k a).aimKinds = s.aimKinds := Table.map_set_same _ _ _ _ h

/-! ### The laws in these terms -/

theorem labMapOk_iff {s : State} :
    LabMapOk s ↔ (s.labMap.map fun e => (e.lab, e.kind)).Nodup ∧ (s.labMap.map MapEntry.line).Nodup ∧
      (∀ e ∈ s.labMap, s.keys.get e.line = some (e.lab, e.kind)) ∧
      ∀ n lab kind, s.keys.get n = some (lab, kind) → ⟨lab, kind, n⟩ ∈ s.labMap := by
  have hback : (∀ n c, s.line n = some c → ⟨c.lab, c.kind, n⟩ ∈ s.labMap) ↔
      ∀ n lab kind, s.keys.get n = some (lab, kind) → ⟨lab, kind, n⟩ ∈ s.labMap := by
    simp only [State.get_keys, Option.map_eq_some_iff, LineCtx.key, Prod.mk.injEq]
    constructor
    · rintro h n lab kind ⟨c, hc, rfl, rfl⟩; exact h n c hc
    · intro h n c hc; exact h n _ _ ⟨c, hc, rfl, rfl⟩
  unfold LabMapOk
  rw [hback]
  simp only [State.get_keys, Option.map_eq_some_iff, LineCtx.key, Prod.mk.injEq]

theorem bindingOk_iff {s : State} :
    BindingOk s ↔ ∀ n lab kind k, s.idents.get n = some (lab, kind, k) → s.aimKinds.get k = kind := by
  simp only [BindingOk, State.get_idents, Option.map_eq_some_iff, LineCtx.ident, Prod.mk.injEq, State.aimKinds,
    Table.get_map]
  constructor
  · rintro h n lab kind k ⟨c, hc, rfl, rfl, rfl⟩; exact h n c hc
  · intro h n c hc; exact h n _ _ _ ⟨c, hc, rfl, rfl, rfl⟩

theorem LabMapOk.congr {s t : State} (hs : LabMapOk s) (hmap : t.labMap = s.labMap) (hkeys : t.keys = s.keys) :
    LabMapOk t := by
  rw [labMapOk_iff] at hs ⊢
  rw [hmap, hkeys]; exact hs

theorem BindingOk.congr {s t : State} (hs : BindingOk s) (hids : t.idents = s.idents) (hkinds : t.aimKinds = s.aimKinds) :
    BindingOk t := by
  rw [bindingOk_iff] at hs ⊢
  rw [hids, hkinds]; exact hs

/-- Both laws of the lines' names. -/
def NamesOk (s : State) : Prop := LabMapOk s ∧ BindingOk s

theorem NamesOk.congr {s t : State} (hs : NamesOk s) (hmap : t.labMap = s.labMap) (hids : t.idents = s.idents)
    (hkinds : t.aimKinds = s.aimKinds) : NamesOk t :=
  ⟨hs.1.congr hmap (keys_of_idents hids), hs.2.congr hids hkinds⟩

theorem NamesOk.answer {s : State} (hs : NamesOk s) (p : Port) (code : Byte) (st : Status) (data : List Byte) :
    NamesOk (s.answer p code st data) :=
  have hf := Frame.answer (s := s) p code st data
  hs.congr (hf.labMap rfl) (idents_of_bareLines (hf.bareLines rfl)) (aimKinds_of_aims (hf.aims rfl))

/-! ### Enrolment, withdrawal and the writes of the sets -/

/-- No entry of the map names an UNUSED line. -/
theorem unused_not_mapped {s : State} (hs : LabMapOk s) {n : Fin 96} (hn : s.line n = none) :
    n ∉ s.labMap.map MapEntry.line := by
  intro h
  obtain ⟨e, he, rfl⟩ := List.mem_map.mp h
  obtain ⟨c, hc, _⟩ := hs.2.2.1 e he
  rw [hn] at hc; cases hc

/-- No entry of the map has a key that the search does not find. -/
theorem findLine_none {s : State} {lab : Nat} {kind : ProcessKind} (h : s.findLine lab kind = none) :
    (lab, kind) ∉ s.labMap.map fun e => (e.lab, e.kind) := by
  intro hm
  obtain ⟨e, he, heq⟩ := List.mem_map.mp hm
  simp only [Prod.mk.injEq] at heq
  simp only [State.findLine, Option.map_eq_none_iff, List.find?_eq_none] at h
  exact h e he (by simp [heq])

theorem NamesOk.enrol {s : State} (hs : NamesOk s) {n : Fin 96} {lab : Nat} {kind : ProcessKind} {k : Fin 16}
    (hkey : s.findLine lab kind = none) (hkind : (s.aim k).kind = kind) (hn : s.line n = none) :
    NamesOk (s.enrol n lab kind k) := by
  obtain ⟨hmap, hbind⟩ := hs
  have hunused := unused_not_mapped hmap hn
  obtain ⟨hkeys, hlines, hfwd, hback⟩ := hmap
  refine ⟨⟨?_, ?_, ?_, ?_⟩, ?_⟩
  · simp only [State.enrol, List.map_append]
    exact hkeys.append (List.nodup_singleton _) (by simpa using findLine_none hkey)
  · simp only [State.enrol, List.map_append]
    exact hlines.append (List.nodup_singleton _) (by simpa using hunused)
  · intro e he
    rcases List.mem_append.mp he with he | he
    · have hne : n ≠ e.line := fun heq => hunused (heq ▸ List.mem_map_of_mem he)
      obtain ⟨c, hc, hrest⟩ := hfwd e he
      exact ⟨c, ((State.setLine_line ..).trans (if_neg hne)).trans hc, hrest⟩
    · rw [List.mem_singleton.mp he]
      exact ⟨_, State.setLine_line_self .., rfl, rfl⟩
  · intro m c hc
    have hc' : (s.setLine n (some (LineCtx.fresh .enrolled lab kind k))).line m = some c := hc
    rw [State.setLine_line] at hc'
    split at hc'
    · rename_i heq
      cases hc'
      subst heq
      exact List.mem_append_right _ (List.mem_singleton.mpr rfl)
    · exact List.mem_append_left _ (hback m c hc')
  · intro m c hc
    have hc' : (s.setLine n (some (LineCtx.fresh .enrolled lab kind k))).line m = some c := hc
    rw [State.setLine_line] at hc'
    split at hc'
    · cases hc'; exact hkind
    · exact hbind m c hc'

/-- A line that goes with its entry of the map. -/
theorem NamesOk.remove {s t : State} (hs : NamesOk s) {n : Fin 96} (hlines : ∀ m, t.line m = if n = m then none else s.line m)
    (hmap : t.labMap = s.labMap.filter fun e => e.line != n) (haims : t.aims = s.aims) : NamesOk t := by
  obtain ⟨⟨hkeys, hnodup, hfwd, hback⟩, hbind⟩ := hs
  refine ⟨⟨?_, ?_, ?_, ?_⟩, ?_⟩
  · rw [hmap]; exact hkeys.sublist (List.filter_sublist.map _)
  · rw [hmap]; exact hnodup.sublist (List.filter_sublist.map _)
  · intro e he
    rw [hmap, List.mem_filter] at he
    obtain ⟨c, hc, hrest⟩ := hfwd e he.1
    exact ⟨c, by rw [hlines, if_neg (fun heq => by simp [heq] at he)]; exact hc, hrest⟩
  · intro m c hc
    rw [hlines] at hc
    split at hc
    · cases hc
    · rename_i hne
      rw [hmap, List.mem_filter]
      exact ⟨hback m c hc, bne_iff_ne.mpr (Ne.symm hne)⟩
  · intro m c hc
    rw [hlines] at hc
    split at hc
    · cases hc
    · simp only [State.aim, haims]; exact hbind m c hc

theorem NamesOk.withdraw {s : State} (hs : NamesOk s) {n : Fin 96} {c : LineCtx} (hc : s.line n = some c) :
    NamesOk (s.withdraw n c) := by
  have hq := State.departAll_quiet (s.setLine n (some { c with waiting := Table.fill 13 none }))
    ((s.setLine n (some { c with waiting := Table.fill 13 none })).entriesOf (.line n))
  have hf := Frame.of_quiet hq
  have hdrop : NamesOk (s.dropLineAlerts n c) :=
    hs.congr (hf.labMap rfl) ((idents_of_quiet hq).trans (idents_setLine hc rfl)) (aimKinds_of_aims (hf.aims rfl))
  exact hdrop.remove (fun m => State.setLine_line ..) rfl rfl

/-- The kind of a set that no line names can change (R93). -/
theorem NamesOk.setKind {s : State} (hs : NamesOk s) {k : Fin 16} {a : AimSet}
    (h : (s.aim k).kind = a.kind ∨ s.linesNaming k = 0) : NamesOk (s.setAim k a) := by
  obtain h | h := h
  · exact hs.congr rfl rfl (aimKinds_setAim h.symm)
  · refine ⟨hs.1.congr rfl rfl, fun n c hc => ?_⟩
    have hne : k ≠ c.aim := by
      rintro rfl
      have hempty := List.length_eq_zero_iff.mp h
      have hmem : n ∈ (List.finRange 96).filter fun m => (s.line m).any fun c' => c'.aim == c.aim := by
        simp [List.mem_filter, show s.line n = some c from hc]
      rw [hempty] at hmem; cases hmem
    rw [State.setAim_aim, if_neg hne]
    exact hs.2 n c hc

theorem edit_kind (a : AimSet) (f : AimPart → AimPart) : (a.edit f).kind = a.kind := by
  unfold AimSet.edit; split <;> rfl

/-! ### The load -/

theorem mem_mapOf {lines : Table (Option LineCtx) 96} {e : MapEntry} :
    e ∈ mapOf lines ↔ (lines.get e.line).map LineCtx.key = some (e.lab, e.kind) := by
  obtain ⟨lab, kind, n⟩ := e
  simp only [mapOf, List.mem_filterMap, List.mem_finRange, true_and, Option.map_eq_some_iff, LineCtx.key,
    MapEntry.mk.injEq, Prod.mk.injEq]
  constructor
  · rintro ⟨m, c, hc, rfl, rfl, rfl⟩; exact ⟨c, hc, rfl, rfl⟩
  · rintro ⟨c, hc, rfl, rfl⟩; exact ⟨n, c, hc, rfl, rfl, rfl⟩

/-- The entries that a load makes stand in line order. -/
theorem mapOf_lines_pairwise (lines : Table (Option LineCtx) 96) :
    ((mapOf lines).map MapEntry.line).Pairwise (· < ·) := by
  have hmap : (mapOf lines).map MapEntry.line =
      (List.finRange 96).filterMap fun n => (lines.get n).map fun _ => n := by
    simp only [mapOf, List.map_filterMap, Option.map_map]; rfl
  rw [hmap, List.pairwise_filterMap]
  refine (List.pairwise_lt_finRange 96).imp ?_
  intro a b hab x hx y hy
  obtain ⟨_, _, rfl⟩ := Option.map_eq_some_iff.mp hx
  obtain ⟨_, _, rfl⟩ := Option.map_eq_some_iff.mp hy
  exact hab

/-- Lines of different numbers that load have different keys. -/
theorem mapOf_keys_nodup {x : Image} (h : x.consistent = true) :
    ((mapOf x.lines).map fun e => (e.lab, e.kind)).Nodup := by
  have hlines := mapOf_lines_pairwise x.lines
  obtain ⟨hkeys, _⟩ := consistent_parts h
  rw [List.pairwise_map] at hlines
  rw [List.Nodup, List.pairwise_map]
  refine hlines.imp_of_mem fun {a b} ha hb hlt heq => ?_
  obtain ⟨c, hc, hck⟩ := Option.map_eq_some_iff.mp (mem_mapOf.mp ha)
  obtain ⟨c', hc', hck'⟩ := Option.map_eq_some_iff.mp (mem_mapOf.mp hb)
  simp only [LineCtx.key, Prod.mk.injEq] at hck hck' heq
  exact hkeys _ _ c c' hlt hc hc' ⟨by rw [hck.1, hck'.1, heq.1], by rw [hck.2, hck'.2, heq.2]⟩

/-- What a load writes into fresh tables keeps the names (R175, R176). -/
theorem NamesOk.restore {s : State} {x : Image} {body : List Byte} (hx : contentOf body = some x)
    (hfresh : s.aims = Table.fill 16 AimSet.default) : NamesOk (s.restore x) := by
  obtain ⟨_, hcons, _, _, _⟩ := contentOf_parts hx
  obtain ⟨_, _, _, hbound⟩ := consistent_parts hcons
  refine ⟨labMapOk_iff.mpr ⟨mapOf_keys_nodup hcons, ?_, ?_, ?_⟩, ?_⟩
  · exact (mapOf_lines_pairwise x.lines).imp fun h => ne_of_lt h
  · intro e he; rw [State.get_keys]; exact mem_mapOf.mp he
  · intro n lab kind h; rw [State.get_keys] at h; exact mem_mapOf.mpr h
  · intro n c hc
    have haim : (s.aim c.aim).kind = .film := by simp [State.aim, hfresh]; rfl
    have hb := hbound n c hc
    simp only [State.aim, State.restore, Table.get_ofFn]
    unfold Image.aimKind at hb
    cases ha : x.aims.get c.aim with
    | none => rw [ha] at hb; exact haim.trans hb
    | some a => rw [ha] at hb; exact hb

/-! ### The evaluation and the pass -/

/-- A record that passes the re-check is of a line at work. -/
theorem recheck_ok {s : State} {st : Strip} {c : LineCtx} {l : Lot} (h : recheck s st = .ok (c, l)) :
    s.line st.line = some c ∧ s.lot st.slot = some l := by
  unfold recheck at h
  split at h
  · cases h
  · split at h
    · cases h
    · split at h
      · cases h
      · split at h
        · cases h
        · repeat' split at h
          all_goals cases h
          exact ⟨‹_›, ‹_›⟩

theorem placed_ident (c : LineCtx) (rec : StripRecord) (part : AimPart) (x : Computed) :
    (placed c rec part x).ident = c.ident := by
  unfold placed; split <;> rfl

theorem takeRecord_idents (s : State) (rec : StripRecord) (rest : List StripRecord) :
    (s.takeRecord rec rest).idents = s.idents := by
  have hg : (State.grant { s with queue := rest }).idents = s.idents := idents_of_bareLines (grant_frame.bareLines rfl)
  unfold State.takeRecord State.evaluate
  split
  · exact hg
  · rename_i c l hc
    exact ((idents_of_quiet (State.offerAll_quiet ..)).trans (idents_setLine (recheck_ok hc).1 (placed_ident ..))).trans hg

theorem endDrain_idents (s : State) : s.endDrain.idents = s.idents := by
  unfold State.endDrain; split <;> rfl

theorem finalise_idents (s : State) (n : Fin 96) : (s.finalise n).idents = s.idents := by
  unfold State.finalise
  split
  · rfl
  · repeat' split
    · rfl
    · rename_i c hc _ _ _ _
      exact (idents_of_quiet (State.offerAll_quiet ..)).trans (idents_setLine hc rfl)
    · rfl

theorem overdueScan_idents (s : State) (n : Fin 96) : (s.overdueScan n).idents = s.idents := by
  unfold State.overdueScan
  split
  · rfl
  · rename_i c hc
    dsimp only
    repeat' split
    · exact (idents_of_quiet (State.offer_quiet ..)).trans (idents_setLine hc rfl)
    · exact idents_setLine hc rfl
    · rfl

theorem transferSet_aimKinds (s : State) (k : Fin 16) : (s.transferSet k).aimKinds = s.aimKinds := by
  unfold State.transferSet
  dsimp only
  repeat' split
  · rfl
  · rfl
  · exact aimKinds_setAim rfl

theorem transferSlot_aimKinds (s : State) (k : Fin 16) : (s.transferSlot k).aimKinds = s.aimKinds := by
  unfold State.transferSlot
  repeat' split
  all_goals rfl

/-! ### Every row -/

theorem exec_keeps_names (i : Instr) (s t : State) (h : exec i s = .next t) (hl : LoadingOk s) (hs : NamesOk s) :
    NamesOk t := by
  have hf := exec_frame h
  by_cases hw : (writes i).contains .labMap = false ∧ (writes i).contains .lines = false ∧
      (writes i).contains .aims = false
  · exact hs.congr (hf.labMap hw.1) (idents_of_bareLines (hf.bareLines hw.2.1)) (aimKinds_of_aims (hf.aims hw.2.2))
  · have hreset : ∀ ready straps level, NamesOk (s.resetWhole ready straps level) := fun _ _ _ => by
      refine ⟨⟨List.nodup_nil, List.nodup_nil, (fun _ h => nomatch h), fun n c hc => ?_⟩, fun n c hc => ?_⟩ <;>
        simp [State.line, State.resetWhole] at hc
    cases i with
    | powerOnReset ready straps => rw [← Host.Outcome.next.inj h]; exact hreset ..
    | restart p ready straps =>
      rw [← Host.Outcome.next.inj h]
      split
      · exact hs
      · exact hs.answer ..
      · exact hreset ..
    | evaluationTake =>
      refine hs.congr (hf.labMap rfl) ?_ (aimKinds_of_aims (hf.aims rfl))
      rw [← Host.Outcome.next.inj h]
      repeat' split
      · rfl
      · exact (endDrain_idents _).trans (takeRecord_idents ..)
      · exact takeRecord_idents ..
      · rfl
    | finalisationStep =>
      refine hs.congr (hf.labMap rfl) ?_ (aimKinds_of_aims (hf.aims rfl))
      rw [← Host.Outcome.next.inj h]
      split
      · exact finalise_idents ..
      · rfl
    | overdueStep =>
      refine hs.congr (hf.labMap rfl) ?_ (aimKinds_of_aims (hf.aims rfl))
      rw [← Host.Outcome.next.inj h]
      split
      · exact overdueScan_idents ..
      · rfl
    | transferStep =>
      refine hs.congr (hf.labMap rfl) (idents_of_bareLines (hf.bareLines rfl)) ?_
      rw [← Host.Outcome.next.inj h]
      split
      · exact transferSet_aimKinds ..
      · exact transferSlot_aimKinds ..
      · rfl
    | loadEnd =>
      obtain rfl | ⟨hload, ⟨o, rfl⟩ | ⟨x, hx, rfl⟩⟩ := exec_loadEnd_cases h
      · exact hs
      · exact hs.congr rfl rfl rfl
      · obtain ⟨_, _, _, _, haims, _⟩ := hl hload
        exact (NamesOk.restore hx haims).congr rfl rfl rfl
    | enrollLine p =>
      rw [← Host.Outcome.next.inj h]
      refine runCommand_keeps NamesOk (fun t _ _ _ ht => ht.answer _ _ _ _) hs fun bs a s' st d _ _ _ hact => ?_
      obtain ⟨n, hkey, hkind, hn, rfl⟩ := enrollLineAct_done hact
      exact hs.enrol hkey hkind hn
    | suspendLine p =>
      rw [← Host.Outcome.next.inj h]
      refine runCommand_keeps NamesOk (fun t _ _ _ ht => ht.answer _ _ _ _) hs fun bs a s' st d _ _ _ hact => ?_
      obtain ⟨c, hc, rfl⟩ := suspendLineAct_done hact
      exact hs.congr rfl (idents_setLine hc rfl) rfl
    | resumeLine p =>
      rw [← Host.Outcome.next.inj h]
      refine runCommand_keeps NamesOk (fun t _ _ _ ht => ht.answer _ _ _ _) hs fun bs a s' st d _ _ _ hact => ?_
      obtain ⟨c, hc, rfl⟩ := resumeLineAct_done hact
      exact hs.congr rfl (idents_setLine hc rfl) rfl
    | withdrawLine p =>
      rw [← Host.Outcome.next.inj h]
      refine runCommand_keeps NamesOk (fun t _ _ _ ht => ht.answer _ _ _ _) hs fun bs a s' st d _ _ _ hact => ?_
      obtain ⟨c, hc, rfl⟩ := withdrawLineAct_done hact
      exact hs.withdraw hc
    | setLineAim p =>
      rw [← Host.Outcome.next.inj h]
      refine runCommand_keeps NamesOk (fun t _ _ _ ht => ht.answer _ _ _ _) hs fun bs a s' st d _ _ _ hact => ?_
      obtain ⟨c, hc, hkind, rfl⟩ := setLineAimAct_done hact
      refine ⟨hs.1.congr rfl (keys_setLine hc rfl), fun m c' hc' => ?_⟩
      rw [State.setLine_line] at hc'
      split at hc'
      · cases hc'; exact hkind.symm
      · exact hs.2 m c' hc'
    | chemEvent p =>
      rw [← Host.Outcome.next.inj h]
      refine runCommand_keeps NamesOk (fun t _ _ _ ht => ht.answer _ _ _ _) hs fun bs a s' st d _ _ _ hact => ?_
      obtain ⟨c, hc, rfl⟩ := chemEventAct_done hact
      exact hs.congr rfl (idents_setLine hc rfl) rfl
    | voidPoint p =>
      rw [← Host.Outcome.next.inj h]
      refine runCommand_keeps NamesOk (fun t _ _ _ ht => ht.answer _ _ _ _) hs fun bs a s' st d _ _ _ hact => ?_
      obtain ⟨c, pt, hc, _, rfl⟩ := voidPointAct_done hact
      exact hs.congr rfl (idents_setLine hc rfl) rfl
    | writeAim p =>
      rw [← Host.Outcome.next.inj h]
      refine runCommand_keeps NamesOk (fun t _ _ _ ht => ht.answer _ _ _ _) hs fun bs a s' st d _ _ _ hact => ?_
      obtain ⟨_, rfl⟩ := writeAimAct_done hact
      exact hs.setKind (.inl (edit_kind ..).symm)
    | writeAimRules p =>
      rw [← Host.Outcome.next.inj h]
      refine runCommand_keeps NamesOk (fun t _ _ _ ht => ht.answer _ _ _ _) hs fun bs a s' st d _ _ _ hact => ?_
      obtain ⟨_, hkind, rfl⟩ := writeAimRulesAct_done hact
      exact hs.setKind hkind
    | setPreload p =>
      rw [← Host.Outcome.next.inj h]
      refine runCommand_keeps NamesOk (fun t _ _ _ ht => ht.answer _ _ _ _) hs fun bs a s' st d _ _ _ hact => ?_
      rw [← (Answer.done.inj hact).1]
      refine hs.setKind (.inl ?_)
      unfold AimSet.setPreload; split <;> rfl
    | discardPending p =>
      rw [← Host.Outcome.next.inj h]
      refine runCommand_keeps NamesOk (fun t _ _ _ ht => ht.answer _ _ _ _) hs fun bs a s' st d _ _ _ hact => ?_
      rw [← (Answer.done.inj hact).1]
      exact hs.setKind (.inl rfl)
    | setLock p =>
      rw [← Host.Outcome.next.inj h]
      refine runCommand_keeps NamesOk (fun t _ _ _ ht => ht.answer _ _ _ _) hs fun bs a s' st d _ _ _ hact => ?_
      obtain ⟨_, rfl⟩ := setLockAct_done hact
      refine hs.congr rfl rfl (Table.ext fun k => ?_)
      simp [State.aimKinds, AimSet.discard]
    | _ => exact absurd ⟨rfl, rfl, rfl⟩ hw

/-- Settles O53: keys and lines come and go together, and a load finds no line and no set that it did not bring. -/
theorem stepKeepsLabMap : Obligations.StepKeepsLabMap := by
  intro s t h hl hs
  have hboth : LoadingOk t ∧ NamesOk t :=
    step_keeps (P := fun u => LoadingOk u ∧ NamesOk u) (fun _ _ h => h)
      (fun c u v hc hu => ⟨exec_keeps_loading c u v hc hu.1, exec_keeps_names c u v hc hu.1 hu.2⟩) h ⟨hl, hs⟩
  exact hboth.2

end Sys2Proof.Machine
end

-- ==== Checks among operands ====
section
/-! PROOFS. The steps of an operand parser (09 R159 step 3): a part that is needed and a check that must hold. -/
namespace Sys2Proof.Machine

section
variable {α β : Type}

theorem need_bind_ok {o : Option α} {st : Status} {f : α → Except Status β} {x : β} :
    (need o st >>= f) = .ok x ↔ ∃ a, o = some a ∧ f a = .ok x := by
  cases o <;> simp [need, bind, Except.bind]

theorem check_bind_ok {b : Bool} {st : Status} {f : Unit → Except Status β} {x : β} :
    (check b st >>= f) = .ok x ↔ b = true ∧ f () = .ok x := by
  cases b <;> simp [check, bind, Except.bind]

theorem need_bind_error {o : Option α} {st st' : Status} {f : α → Except Status β} :
    (need o st >>= f) = .error st' ↔ o = none ∧ st = st' ∨ ∃ a, o = some a ∧ f a = .error st' := by
  cases o <;> simp [need, bind, Except.bind]

theorem check_bind_error {b : Bool} {st st' : Status} {f : Unit → Except Status β} :
    (check b st >>= f) = .error st' ↔ b = false ∧ st = st' ∨ b = true ∧ f () = .error st' := by
  cases b <;> simp [check, bind, Except.bind]
end

end Sys2Proof.Machine
end

-- ==== The lots ====
section
/-! PROOFS. The law of the lots (06 R101, R105) and of the desk settings: who writes a slot's code, state and kind, and
who writes the settings. -/
namespace Sys2Proof.Machine

/-! ### What the law speaks of -/

/-- A slot's code, state and kind. -/
def Lot.tag (l : Lot) : Nat × LotState × ProcessKind := (l.code, l.state, l.kind)

/-- The slots' tags, none for an EMPTY one. -/
def State.tags (s : State) : Table (Option (Nat × LotState × ProcessKind)) 16 := s.lots.map (Option.map Lot.tag)

theorem State.get_tags (s : State) (k : Fin 16) : s.tags.get k = (s.lot k).map Lot.tag := Table.get_map ..

theorem tags_of_bareLots {s t : State} (h : t.bareLots = s.bareLots) : t.tags = s.tags := by
  have hcomp : ∀ u : State, u.tags = u.bareLots.map (Option.map Lot.tag) := fun u => by
    apply Table.ext; intro k
    rw [State.get_tags, Table.get_map, State.bareLots, Table.get_map, Option.map_map]; rfl
  rw [hcomp t, hcomp s, h]

theorem tags_setLot {s : State} {k : Fin 16} {l l' : Lot} (hl : s.lot k = some l) (h : l'.tag = l.tag) :
    (s.setLot k (some l')).tags = s.tags :=
  Table.map_set_same _ _ _ _ (by rw [show s.lots.get k = some l from hl]; simp [h])

theorem lotsOk_iff {s : State} :
    LotsOk s ↔ s.day.desk.inRange = true ∧
      (∀ j k c d, (s.tags.get j) = some c → s.tags.get k = some d → c.1 = d.1 → j = k) ∧
      (∀ j k c d, s.tags.get j = some c → s.tags.get k = some d → c.2.1 = .current → d.2.1 = .current →
        c.2.2 = d.2.2 → j = k) ∧
      ∀ k c n, s.tags.get k = some c → c.2.1 = .retiring n → 1 ≤ n ∧ n ≤ 7 := by
  simp only [State.get_tags, Option.map_eq_some_iff]
  constructor
  · rintro ⟨hdesk, hcodes, hcurrent, hretiring⟩
    refine ⟨hdesk, ?_, ?_, ?_⟩
    · rintro j k _ _ ⟨l, hl, rfl⟩ ⟨m, hm, rfl⟩; exact hcodes j k l m hl hm
    · rintro j k _ _ ⟨l, hl, rfl⟩ ⟨m, hm, rfl⟩; exact hcurrent j k l m hl hm
    · rintro k _ n ⟨l, hl, rfl⟩; exact hretiring k l n hl
  · rintro ⟨hdesk, hcodes, hcurrent, hretiring⟩
    exact ⟨hdesk, fun j k l m hl hm => hcodes j k _ _ ⟨l, hl, rfl⟩ ⟨m, hm, rfl⟩,
      fun j k l m hl hm => hcurrent j k _ _ ⟨l, hl, rfl⟩ ⟨m, hm, rfl⟩, fun k l n hl => hretiring k _ n ⟨l, hl, rfl⟩⟩

theorem LotsOk.congr {s t : State} (hs : LotsOk s) (htags : t.tags = s.tags) (hdesk : t.day.desk = s.day.desk) :
    LotsOk t := by
  rw [lotsOk_iff] at hs ⊢
  rw [htags, hdesk]; exact hs

theorem LotsOk.answer {s : State} (hs : LotsOk s) (p : Port) (code : Byte) (st : Status) (data : List Byte) :
    LotsOk (s.answer p code st data) :=
  hs.congr (tags_of_bareLots ((Frame.answer (s := s) p code st data).bareLots rfl)) (by simp)

/-- A slot that empties. -/
theorem LotsOk.empty {s : State} (hs : LotsOk s) (k : Fin 16) : LotsOk (s.setLot k none) := by
  obtain ⟨hdesk, hcodes, hcurrent, hretiring⟩ := hs
  have hsome : ∀ {j l}, (s.setLot k none).lot j = some l → s.lot j = some l := fun {j l} h => by
    rw [State.setLot_lot] at h; split at h
    · cases h
    · exact h
  exact ⟨hdesk, fun i j l m hl hm => hcodes i j l m (hsome hl) (hsome hm),
    fun i j l m hl hm => hcurrent i j l m (hsome hl) (hsome hm), fun j l c hl => hretiring j l c (hsome hl)⟩

/-- A slot that takes a lot whose code is its own or new, which is CURRENT only where no other slot of its kind is, and
which is not RETIRING outside 1 to 7. -/
theorem LotsOk.put {s : State} (hs : LotsOk s) {k : Fin 16} {l : Lot}
    (hcode : ∀ j m, j ≠ k → s.lot j = some m → m.code ≠ l.code)
    (hcur : l.state = .current → ∀ j m, j ≠ k → s.lot j = some m → m.state = .current → m.kind ≠ l.kind)
    (hret : ∀ c, l.state = .retiring c → 1 ≤ c ∧ c ≤ 7) : LotsOk (s.setLot k (some l)) := by
  obtain ⟨hdesk, hcodes, hcurrent, hretiring⟩ := hs
  have hat : ∀ {j m}, (s.setLot k (some l)).lot j = some m → j = k ∧ m = l ∨ j ≠ k ∧ s.lot j = some m := by
    intro j m h
    rw [State.setLot_lot] at h
    split at h
    · rename_i e; cases h; exact .inl ⟨e.symm, rfl⟩
    · rename_i e; exact .inr ⟨Ne.symm e, h⟩
  refine ⟨hdesk, fun i j a b ha hb hab => ?_, fun i j a b ha hb hac hbc hab => ?_, fun j m c hm hc => ?_⟩
  · obtain ⟨rfl, rfl⟩ | ⟨hi, ha'⟩ := hat ha <;> obtain ⟨rfl, rfl⟩ | ⟨hj, hb'⟩ := hat hb
    · rfl
    · exact absurd hab.symm (hcode j b hj hb')
    · exact absurd hab (hcode i a hi ha')
    · exact hcodes i j a b ha' hb' hab
  · obtain ⟨rfl, rfl⟩ | ⟨hi, ha'⟩ := hat ha <;> obtain ⟨rfl, rfl⟩ | ⟨hj, hb'⟩ := hat hb
    · rfl
    · exact absurd hab.symm (hcur hac j b hj hb' hbc)
    · exact absurd hab (hcur hbc i a hi ha' hac)
    · exact hcurrent i j a b ha' hb' hac hbc hab
  · obtain ⟨rfl, rfl⟩ | ⟨_, hm⟩ := hat hm
    · exact hret c hc
    · exact hretiring j m c hm hc

/-- A slot whose lot goes into another state, which is not CURRENT. -/
theorem LotsOk.into {s : State} (hs : LotsOk s) {k : Fin 16} {l : Lot} (hl : s.lot k = some l) {st : LotState}
    (hne : st ≠ .current) (hret : ∀ c, st = .retiring c → 1 ≤ c ∧ c ≤ 7) : LotsOk (s.setLot k (some (l.into st))) :=
  hs.put (fun j m hj hm hcode => hj (hs.2.1 j k m l hm hl hcode)) (fun h => absurd h hne) hret

/-! ### The searches -/

/-- No slot holds a code that the search does not find. -/
theorem findLot_none {s : State} {code : Nat} (h : s.findLot code = none) {j : Fin 16} {m : Lot} (hm : s.lot j = some m) :
    m.code ≠ code := by
  have hj := List.find?_eq_none.mp h j (List.mem_finRange j)
  simpa [hm] using hj

/-- No slot of a kind is CURRENT if the search does not find one. -/
theorem currentOf_none {s : State} {kind : ProcessKind} (h : s.currentOf kind = none) {j : Fin 16} {m : Lot}
    (hm : s.lot j = some m) (hc : m.state = .current) : m.kind ≠ kind := by
  simp only [State.currentOf, List.findSome?_eq_none_iff, List.mem_finRange, true_implies] at h
  have hj := h j
  rw [hm] at hj
  intro heq
  simp [heq, hc] at hj

/-- The CURRENT slot that a search finds is CURRENT and of its kind. -/
theorem currentOf_some {s : State} {kind : ProcessKind} {j : Fin 16} {m : Lot} (h : s.currentOf kind = some (j, m)) :
    s.lot j = some m ∧ m.state = .current ∧ m.kind = kind := by
  obtain ⟨i, _, hi⟩ := List.exists_of_findSome?_eq_some h
  split at hi
  · cases hi
  · split at hi <;> cases hi
    exact ⟨‹_›, ‹_›⟩

/-! ### The commands that write slots -/

theorem Desk.crossover_range {d : Desk} (h : d.inRange = true) : 1 ≤ d.crossoverDays ∧ d.crossoverDays ≤ 7 := by
  simp only [Desk.inRange, Bool.and_eq_true, decide_eq_true_eq] at h
  obtain ⟨⟨_, hlow⟩, hhigh⟩ := h
  exact ⟨hlow, hhigh⟩

theorem LotsOk.define {s : State} (hs : LotsOk s) {k : Fin 16} {code : Nat} (hcode : s.findLot code = none)
    (kind : ProcessKind) (refs : Table Int 12) : LotsOk (s.setLot k (some (Lot.fresh code kind refs))) :=
  hs.put (fun _ _ _ hm => findLot_none hcode hm) (fun h => nomatch h) fun _ h => nomatch h

/-- MAKE-CURRENT leaves one CURRENT slot of the kind (R105). -/
theorem LotsOk.makeCurrent {p : Port} {s s' : State} {k : Fin 16} {st : Status} {d : List Byte} (hs : LotsOk s)
    (h : makeCurrentAct p k s = .done s' st d) : LotsOk s' := by
  obtain ⟨l, hl, hdef, ⟨hnone, rfl⟩ | ⟨j, m, hm, rfl⟩⟩ := makeCurrentAct_done h
  · exact hs.put (fun i n hi hn heq => hi (hs.2.1 i k n l hn hl heq)) (fun _ i n _ hn hc => currentOf_none hnone hn hc)
      fun _ h => nomatch h
  · obtain ⟨hj, hcur, hkind⟩ := currentOf_some hm
    have hjk : j ≠ k := fun e => by
      subst e; cases hl.symm.trans hj; rw [hcur] at hdef; cases hdef
    have hret : LotsOk (s.setLot j (some (m.into (.retiring s.day.desk.crossoverDays)))) :=
      hs.into hj (fun h => nomatch h) fun c hc => by cases hc; exact Desk.crossover_range hs.1
    have hlk : (s.setLot j (some (m.into (.retiring s.day.desk.crossoverDays)))).lot k = some l := by
      rw [State.setLot_lot, if_neg hjk, hl]
    refine hret.put (fun i n hi hn heq => hi (hret.2.1 i k n l hn hlk heq)) (fun _ i n hi hn hc hkn => ?_) fun _ h => nomatch h
    rw [State.setLot_lot] at hn
    split at hn
    · cases hn; cases hc
    · rename_i hij
      exact hij (hs.2.2.1 i j n m hn hj hc hcur (hkn.trans hkind.symm)).symm

/-! ### The pass, the evaluation and the load -/

theorem takeRecord_desk (s : State) (rec : StripRecord) (rest : List StripRecord) :
    (s.takeRecord rec rest).day = s.day := by
  have hg : (State.grant { s with queue := rest }).day = s.day := grant_frame.day rfl
  unfold State.takeRecord State.evaluate
  split
  · exact hg
  · exact ((place_frame ..).day rfl).trans hg

theorem endDrain_desk (s : State) : s.endDrain.day.desk = s.day.desk := by
  unfold State.endDrain; split <;> rfl

theorem consensus_lots (s : State) (k : Fin 16) :
    (s.consensus k).tags = s.tags ∧ (s.consensus k).day.desk = s.day.desk := by
  unfold State.consensus
  split
  · exact ⟨rfl, rfl⟩
  · rename_i l hl
    exact ⟨(tags_of_bareLots ((offerAll_frame _).bareLots rfl)).trans (tags_setLot hl rfl),
      by simp⟩

theorem finalise_desk (s : State) (n : Fin 96) : (s.finalise n).day.desk = s.day.desk := by
  unfold State.finalise
  repeat' split
  case h_2.isTrue => simp [State.finalisePoint]
  all_goals rfl

theorem overdueScan_desk (s : State) (n : Fin 96) : (s.overdueScan n).day.desk = s.day.desk := by
  unfold State.overdueScan
  split
  · rfl
  · dsimp only
    repeat' split
    · simp [(Frame.of_quiet (State.offer_quiet ..)).day rfl]
    all_goals rfl

/-- A countdown goes down to 1 and then to RETIRED (R106). -/
theorem LotsOk.countDown {s : State} (hs : LotsOk s) (k : Fin 16) : LotsOk (s.countDown k) := by
  unfold State.countDown
  split
  · exact hs
  · rename_i l hl
    unfold Lot.countedDown
    split
    · rename_i c hc
      have hrange := hs.2.2.2 k l c hl hc
      refine hs.into hl (st := if c ≤ 1 then .retired else .retiring (c - 1)) ?_ fun n hn => ?_
      · split <;> exact fun h => nomatch h
      · split at hn
        · cases hn
        · cases hn; omega
    all_goals exact hs.congr (tags_setLot hl rfl) rfl

theorem transferSet_lots (s : State) (k : Fin 16) :
    (s.transferSet k).tags = s.tags ∧ (s.transferSet k).day.desk = s.day.desk := by
  unfold State.transferSet
  dsimp only
  repeat' split
  all_goals exact ⟨rfl, rfl⟩

theorem transferSlot_lots (s : State) (k : Fin 16) :
    (s.transferSlot k).tags = s.tags ∧ (s.transferSlot k).day.desk = s.day.desk := by
  unfold State.transferSlot
  split
  · exact ⟨rfl, rfl⟩
  · rename_i l hl
    repeat' split
    · exact ⟨rfl, rfl⟩
    · exact ⟨rfl, rfl⟩
    · exact ⟨tags_setLot (l' := { l with active := l.pending }) hl rfl, rfl⟩

/-- What a load writes keeps the lots (R175). -/
theorem LotsOk.restore (s : State) {x : Image} {body : List Byte} (hx : contentOf body = some x) : LotsOk (s.restore x) := by
  obtain ⟨hdesk, hcons, _, hlots, _⟩ := contentOf_parts hx
  obtain ⟨_, hcurrent, hcodes, _⟩ := consistent_parts hcons
  refine ⟨hdesk, fun j k l m hl hm heq => ?_, fun j k l m hl hm hlc hmc heq => ?_, fun k l c hl hc => ?_⟩
  · rcases lt_trichotomy j k with h | h | h
    · exact absurd heq (hcodes j k l m h hl hm)
    · exact h
    · exact absurd heq.symm (hcodes k j m l h hm hl)
  · rcases lt_trichotomy j k with h | h | h
    · exact absurd ⟨hlc, hmc, heq⟩ (hcurrent j k l m h hl hm)
    · exact h
    · exact absurd ⟨hmc, hlc, heq.symm⟩ (hcurrent k j m l h hm hl)
  · have hk := hlots k
    rw [show x.lots.get k = some l from hl] at hk
    exact (parseLotEntry_some hk).2 c hc

theorem LotsOk.reset (s : State) (ready : BitVec 4) (straps : BitVec 3) (level : Nat) :
    LotsOk (s.resetWhole ready straps level) := by
  have hnone : ∀ k, (s.resetWhole ready straps level).lot k = none := fun k => by simp [State.lot, State.resetWhole]
  refine ⟨by rfl, fun j k l m hl => ?_, fun j k l m hl => ?_, fun k l c hl => ?_⟩ <;>
    rw [hnone] at hl <;> cases hl

/-- The bytes of WRITE-DESK that pass are settings in their ranges (R119). -/
theorem parseDesk_range {bs : List Byte} {d : Desk} (h : parseDesk bs = .ok d) : d.inRange = true := by
  unfold parseDesk at h
  obtain ⟨d', _, h⟩ := need_bind_ok.mp h
  obtain ⟨hrange, h⟩ := check_bind_ok.mp h
  cases h; exact hrange

/-! ### Every row -/

theorem endSave_desk (s : State) (o : LastOutcome) : (s.endSave o).day.desk = s.day.desk := by
  unfold State.endSave State.resumeTransfer; split <;> rfl

theorem exec_keeps_lots (i : Instr) (s t : State) (h : exec i s = .next t) (hs : LotsOk s) : LotsOk t := by
  have hf := exec_frame h
  by_cases hw : (writes i).contains .lots = false ∧ (writes i).contains .day = false
  · exact hs.congr (tags_of_bareLots (hf.bareLots hw.1)) (by rw [hf.day hw.2])
  · cases i with
    | powerOnReset ready straps => rw [← Host.Outcome.next.inj h]; exact .reset _ _ _ _
    | restart p ready straps =>
      rw [← Host.Outcome.next.inj h]
      split
      · exact hs
      · exact hs.answer ..
      · exact .reset _ _ _ _
    | evaluationTake =>
      refine hs.congr (tags_of_bareLots (hf.bareLots rfl)) ?_
      rw [← Host.Outcome.next.inj h]
      repeat' split
      · rfl
      · exact (endDrain_desk _).trans (congrArg DayUnit.desk (takeRecord_desk ..))
      · exact congrArg DayUnit.desk (takeRecord_desk ..)
      · rfl
    | consensusStep =>
      rw [← Host.Outcome.next.inj h]
      split
      · obtain ⟨htags, hdesk⟩ := consensus_lots s ‹_›
        exact hs.congr htags hdesk
      · exact hs
    | finalisationStep =>
      refine hs.congr (tags_of_bareLots (hf.bareLots rfl)) ?_
      rw [← Host.Outcome.next.inj h]
      split
      · exact finalise_desk ..
      · rfl
    | overdueStep =>
      refine hs.congr (tags_of_bareLots (hf.bareLots rfl)) ?_
      rw [← Host.Outcome.next.inj h]
      split
      · exact overdueScan_desk ..
      · rfl
    | countdownStep =>
      rw [← Host.Outcome.next.inj h]
      repeat' split
      · exact (hs.countDown _).congr rfl rfl
      · have hc := (hs.countDown ‹_›).congr (t := (s.countDown ‹_›).advance (.countdown ‹_›)) rfl rfl
        unfold State.beginTransfer
        split
        · exact hc.congr rfl rfl
        · exact hc
      · exact hs
    | transferStep =>
      rw [← Host.Outcome.next.inj h]
      split
      · obtain ⟨htags, hdesk⟩ := transferSet_lots s ‹_›
        exact hs.congr htags hdesk
      · obtain ⟨htags, hdesk⟩ := transferSlot_lots s ‹_›
        exact hs.congr htags hdesk
      · exact hs
    | summary | closeInEdge | dayTimerTick | dayTimerExpiry | closeOutPulseEnd =>
      rw [← Host.Outcome.next.inj h]
      repeat' split
      all_goals exact hs.congr rfl rfl
    | loadEnd =>
      obtain rfl | ⟨_, ⟨o, rfl⟩ | ⟨x, hx, rfl⟩⟩ := exec_loadEnd_cases h
      · exact hs
      · exact hs.congr rfl rfl
      · exact (LotsOk.restore s hx).congr rfl rfl
    | pageWriteComplete =>
      refine hs.congr (tags_of_bareLots (hf.bareLots rfl)) ?_
      rw [← Host.Outcome.next.inj h]
      split
      case h_3 =>
        unfold State.pageWritten
        dsimp only
        split
        · rfl
        · exact endSave_desk ..
      all_goals rfl
    | writeTimeout | noAnswer =>
      refine hs.congr (tags_of_bareLots (hf.bareLots rfl)) ?_
      rw [← Host.Outcome.next.inj h]
      split
      all_goals first | exact endSave_desk .. | rfl
    | defineLot p =>
      rw [← Host.Outcome.next.inj h]
      refine runCommand_keeps LotsOk (fun t _ _ _ ht => ht.answer _ _ _ _) hs fun bs a s' st d _ _ _ hact => ?_
      obtain ⟨_, hcode, rfl⟩ := defineLotAct_done hact
      exact hs.define hcode _ _
    | makeCurrent p =>
      rw [← Host.Outcome.next.inj h]
      exact runCommand_keeps LotsOk (fun t _ _ _ ht => ht.answer _ _ _ _) hs fun bs a s' st d _ _ _ hact =>
        hs.makeCurrent hact
    | retireLot p =>
      rw [← Host.Outcome.next.inj h]
      refine runCommand_keeps LotsOk (fun t _ _ _ ht => ht.answer _ _ _ _) hs fun bs a s' st d _ _ _ hact => ?_
      obtain ⟨l, hl, rfl⟩ := retireLotAct_done hact
      exact hs.into hl (fun h => nomatch h) fun _ h => nomatch h
    | clearLot p =>
      rw [← Host.Outcome.next.inj h]
      refine runCommand_keeps LotsOk (fun t _ _ _ ht => ht.answer _ _ _ _) hs fun bs a s' st d _ _ _ hact => ?_
      obtain ⟨l, hl, rfl⟩ := clearLotAct_done hact
      have hdrop := Frame.of_quiet (State.departAll_quiet (s.setLot a (some { l with waiting := Table.fill 12 none }))
        ((s.setLot a (some { l with waiting := Table.fill 12 none })).entriesOf (.lot a)))
      refine LotsOk.empty (hs.congr ((tags_of_bareLots (hdrop.bareLots rfl)).trans (tags_setLot hl rfl)) ?_) a
      exact congrArg DayUnit.desk (hdrop.day rfl)
    | writeCorrection p =>
      rw [← Host.Outcome.next.inj h]
      refine runCommand_keeps LotsOk (fun t _ _ _ ht => ht.answer _ _ _ _) hs fun bs a s' st d _ _ _ hact => ?_
      obtain ⟨l, hl, rfl⟩ := writeCorrectionAct_done hact
      exact hs.congr (tags_setLot hl rfl) rfl
    | adoptProposal p =>
      rw [← Host.Outcome.next.inj h]
      refine runCommand_keeps LotsOk (fun t _ _ _ ht => ht.answer _ _ _ _) hs fun bs a s' st d _ _ _ hact => ?_
      obtain ⟨l, q, hl, rfl⟩ := adoptProposalAct_done hact
      exact hs.congr (tags_setLot hl rfl) rfl
    | closeDay p =>
      rw [← Host.Outcome.next.inj h]
      refine runCommand_keeps LotsOk (fun t _ _ _ ht => ht.answer _ _ _ _) hs fun bs a s' st d _ _ _ hact => ?_
      obtain ⟨_, _, rfl⟩ := closeDayAct_done hact
      exact hs.congr rfl rfl
    | readDay p =>
      rw [← Host.Outcome.next.inj h]
      refine runCommand_keeps LotsOk (fun t _ _ _ ht => ht.answer _ _ _ _) hs fun bs a s' st d _ _ _ hact => ?_
      rw [← (Answer.done.inj hact).1]
      exact hs.congr rfl rfl
    | writeDesk p =>
      rw [← Host.Outcome.next.inj h]
      refine runCommand_keeps LotsOk (fun t _ _ _ ht => ht.answer _ _ _ _) hs fun bs a s' st d _ hparse _ hact => ?_
      rw [← (Answer.done.inj hact).1]
      exact ⟨parseDesk_range hparse, hs.2⟩
    | _ => exact absurd ⟨rfl, rfl⟩ hw

/-- Settles O55: the commands that define, move and load lots check codes, kinds and countdowns; the rest leave the slots'
tags. -/
theorem stepKeepsLots : Obligations.StepKeepsLots :=
  fun _ _ h hs => step_keeps (fun _ _ h => h) exec_keeps_lots h hs

end Sys2Proof.Machine
end

-- ==== The reader lines ====
section
/-! PROOFS. The bounds of a reader line (01 R2, 02 R19, R31, R36) through every operation on the line, and then through
every row that writes the lines. -/
namespace Sys2Proof.Machine

section
variable {r : Reader}

/-! ### Changes that the law does not see -/

/-- The law speaks of nine fields and not of the others. -/
theorem Reader.ok.of_fields {r' : Reader} (h : r.ok) (hen : r'.enable = r.enable) (hloop : r'.loopback = r.loopback)
    (hlife : r'.calLife = r.calLife) (hphase : r'.phase = r.phase) (hfifo : r'.fifo = r.fifo) (hcal : r'.cal = r.cal)
    (hsend : r'.sending = r.sending) (hwait : r'.waiting = r.waiting) (htest : r'.testSender = r.testSender) :
    r'.ok := by
  simpa only [Reader.ok, Reader.inLoop, Reader.holdsReply, Reader.sendsReply, hen, hloop, hlife, hphase, hfifo, hcal,
    hsend, hwait, htest] using h

/-- An assembler that goes back to hunting. -/
theorem Reader.ok.hunt (h : r.ok) : Reader.ok { r with phase := .hunt } := by
  obtain ⟨hfifo, hoff, hlife, hcal, hwait, hidle, hloop, _, htest⟩ := h
  exact ⟨hfifo, fun he => ⟨(hoff he).1, rfl, (hoff he).2.2⟩, hlife, hcal, hwait, hidle, hloop, trivial, htest⟩

theorem Reader.ok.expireCal (h : r.ok) : r.expireCal.ok := by
  obtain ⟨hfifo, hoff, hlife, _, hrest⟩ := h
  exact ⟨hfifo, hoff, hlife, trivial, hrest⟩

/-- A FIFO that stays within its depth on a line that is not OFF. -/
theorem Reader.ok.withFifo (h : r.ok) {l : List FifoChar} (hen : r.enable = true) (hl : l.length ≤ Config.fifoDepth) :
    Reader.ok { r with fifo := l } := by
  obtain ⟨_, _, hrest⟩ := h
  exact ⟨hl, fun he => absurd hen (by simp [show r.enable = false from he]), hrest⟩

theorem markNewest_length (l : List FifoChar) : (markNewest l).length = l.length := by
  induction l with
  | nil => rfl
  | cons c l ih =>
    cases l with
    | nil => rfl
    | cons d l => simpa [markNewest] using ih

theorem Reader.ok.enter (h : r.ok) (hen : r.enable = true) (c : FifoChar) : (r.enter c).ok := by
  unfold Reader.enter
  split
  · rename_i hlt
    exact h.withFifo hen (by simpa using hlt)
  · exact h.withFifo hen (by rw [markNewest_length]; exact h.1)

theorem Reader.onWire_iff : r.onWire = true ↔ r.enable = true ∧ r.loopback = false := by
  simp [Reader.onWire]

theorem Reader.ok.dispose (h : r.ok) (c : FifoChar) : (r.dispose c).ok := by
  unfold Reader.dispose
  split
  · rename_i hc
    simp only [Bool.and_eq_true, Reader.onWire_iff] at hc
    exact h.enter hc.1.1 c
  · exact h

theorem consumes_enable (h : r.consumes = true) : r.enable = true := by
  simp only [Reader.consumes, Bool.and_eq_true] at h
  exact h.1.1

/-- Outside LOOPBACK a character is consumed only while the transmitter holds no reply (R21). -/
theorem consumes_noReply (h : r.consumes = true) (hl : r.loopback = false) : r.holdsReply = false := by
  grind [Reader.consumes]

/-- The inter-character clock runs on a line that receives (R24). -/
theorem interCharacterRuns_receiving (h : r.interCharacterRuns = true) :
    r.enable = true ∧ ∃ bs, r.phase = .receiving bs := by
  grind [Reader.interCharacterRuns]

/-- An assembler that receives while the transmitter holds no reply. -/
theorem Reader.ok.receive (h : r.ok) (hen : r.enable = true) (hrep : r.holdsReply = false) (bs : List Byte) :
    Reader.ok { r with phase := .receiving bs } := by
  obtain ⟨hfifo, _, hlife, hcal, hwait, hidle, hloop, _, htest⟩ := h
  exact ⟨hfifo, fun he => absurd hen (by simp [show r.enable = false from he]), hlife, hcal, hwait, hidle, hloop, hrep,
    htest⟩

theorem Reader.ok.huntStep (h : r.ok) (hen : r.enable = true) (hrep : r.holdsReply = false) (gate : Bool)
    (c : FifoChar) : Reader.ok { r with phase := huntStep r gate c } := by
  unfold Sys2Proof.Machine.huntStep
  split
  · exact h.receive hen hrep []
  · exact h.hunt

theorem Reader.ok.endTest (h : r.ok) (t : TestResult) : (r.endTest t).ok :=
  h.hunt.of_fields rfl rfl rfl rfl rfl rfl rfl rfl rfl

/-- A character consumed in LOOPBACK, where the transmitter holds no reply (R38). -/
theorem Reader.ok.consumeInLoop (h : r.ok) (hloop : r.inLoop = true) (c : FifoChar) : (r.consumeInLoop c).ok := by
  have hen : r.enable = true := by simp only [Reader.inLoop, Bool.and_eq_true] at hloop; exact hloop.1
  have hrep : r.holdsReply = false := h.2.2.2.2.2.2.1 hloop
  unfold Reader.consumeInLoop
  repeat' split
  · exact h
  · exact h.huntStep hen hrep _ _
  · exact h.hunt
  · exact h.endTest _
  · exact h.endTest _
  · exact h.receive hen hrep _

/-! ### The transmitter -/

/-- A line that receives outside LOOPBACK has an empty transmitter. -/
theorem receiving_sendsNothing (h : r.ok) (hloop : r.inLoop = false) {bs : List Byte} (hp : r.phase = .receiving bs) :
    r.sending = none ∧ r.waiting = [] := by
  obtain ⟨_, _, _, _, _, hidle, _, hphase, htest⟩ := h
  rw [hp] at hphase
  have hphase : r.holdsReply = false := hphase
  have hnone : r.sending = none := by
    cases hs : r.sending with
    | none => rfl
    | some x =>
      have hsend : r.sendsReply = true := (htest hloop).2 (by simp [hs])
      unfold Reader.sendsReply at hsend
      unfold Reader.holdsReply at hphase
      obtain ⟨⟨⟩, _⟩ := x <;> simp_all
  exact ⟨hnone, hidle hnone⟩

/-- There is room for a reply where a frame ends: on a line outside LOOPBACK with no reply waiting (R29, R31). -/
def Reader.room (r : Reader) : Prop := r.enable = true ∧ r.inLoop = false ∧ r.waiting = []

theorem Reader.ok.reply (h : r.ok) (hroom : r.room) (x : Reply) : Reader.ok (Reader.reply { r with phase := .hunt } x) := by
  obtain ⟨hen, hloop, hwaiting⟩ := hroom
  cases hs : r.sending with
  | none => grind [Reader.ok, Reader.inLoop, Reader.holdsReply, Reader.sendsReply, Reader.reply]
  | some c => grind [Reader.ok, Reader.inLoop, Reader.holdsReply, Reader.sendsReply, Reader.reply]

/-- The WAIT reply of a frame that is held: the line was receiving, so its transmitter was empty (R29). -/
theorem Reader.ok.holdFrame (h : r.ok) (hen : r.enable = true) (hloop : r.inLoop = false) {bs : List Byte}
    (hp : r.phase = .receiving bs) (st : Strip) : Reader.ok (Reader.reply { r with phase := .held st } .wait) := by
  obtain ⟨hsend, hwaiting⟩ := receiving_sendsNothing h hloop hp
  grind [Reader.ok, Reader.inLoop, Reader.holdsReply, Reader.sendsReply, Reader.reply]

/-- The calibrations that a context may hold (R2). -/
def Calibration.inRange (c : Calibration) : Prop :=
  match c with
  | .uncalibrated => True
  | .valid _ _ n => 1 ≤ n ∧ n ≤ 255
  | .spent _ _ => True

theorem Calibration.serve_inRange {c : Calibration} (h : c.inRange) : c.serve.inRange := by
  cases c with
  | valid o g n =>
    obtain ⟨hlow, hhigh⟩ := h
    simp only [Calibration.serve]
    split
    · trivial
    · exact ⟨by omega, by omega⟩
  | _ => trivial

theorem Reader.ok.withCal (h : r.ok) {c : Calibration} (hc : c.inRange) : Reader.ok { r with cal := c } := by
  obtain ⟨hfifo, hoff, hlife, _, hrest⟩ := h
  exact ⟨hfifo, hoff, hlife, hc, hrest⟩

/-- The next reply begins, or the transmitter empties (R31): a HELD line has none waiting, and a line in LOOPBACK holds
no reply. -/
theorem Reader.ok.nextReply (h : r.ok) (hs : r.sendsReply = true) : r.nextReply.ok := by
  cases hw : r.waiting with
  | nil => grind [Reader.ok, Reader.inLoop, Reader.holdsReply, Reader.sendsReply, Reader.nextReply]
  | cons x rest => grind [Reader.ok, Reader.inLoop, Reader.holdsReply, Reader.sendsReply, Reader.nextReply]

/-- In LOOPBACK the transmitter takes characters of the test frame alone (R38, R39). -/
theorem Reader.ok.nextTest (h : r.ok) (hl : r.inLoop = true) : r.nextTest.ok := by
  cases hw : r.testSender with
  | nil => grind [Reader.ok, Reader.inLoop, Reader.holdsReply, Reader.sendsReply, Reader.nextTest]
  | cons x rest => grind [Reader.ok, Reader.inLoop, Reader.holdsReply, Reader.sendsReply, Reader.nextTest]

/-- Characters join the test sender in LOOPBACK alone (R39). -/
theorem Reader.ok.queueTest (h : r.ok) (hl : r.inLoop = true) (t : TestResult) (bs : List Byte) :
    Reader.ok { r with test := t, testSender := bs } := by
  grind [Reader.ok, Reader.inLoop, Reader.holdsReply, Reader.sendsReply]

/-- SET-READER: a line that changes its condition empties what the new one does not allow (R31, R35, R36), and one that
does not keeps its enable and, while it is on, its loopback and rate. -/
theorem Reader.ok.configure (h : r.ok) {x : ReaderSettings} (hx : 1 ≤ x.calLife ∧ x.calLife ≤ 255) :
    (r.configure x).ok := by
  cases hd : r.discards x with
  | false =>
    grind [Reader.ok, Reader.inLoop, Reader.holdsReply, Reader.sendsReply, Reader.configure, Reader.discards,
      Reader.leavesTest, Reader.emptiesTx]
  | true =>
    grind [Reader.ok, Reader.inLoop, Reader.holdsReply, Reader.sendsReply, Reader.configure, Reader.discards,
      Reader.leavesTest, Reader.emptiesTx]
end

/-! ### Operations on the part -/

section
variable {s : State}

theorem ReadersOk.of_readers {t : State} (hs : ReadersOk s) (h : t.readers = s.readers) : ReadersOk t := fun rl => by
  rw [State.reader, h]; exact hs rl

theorem ReadersOk.setReader (hs : ReadersOk s) {rl : Fin 4} {r : Reader} (hr : r.ok) : ReadersOk (s.setReader rl r) :=
  fun j => by
    rw [State.setReader_reader]
    split
    · exact hr
    · exact hs j

theorem ReadersOk.chargeFault (hs : ReadersOk s) (rl : Fin 4) (c : FaultCode) (o : Origin) (lab : Option Nat) :
    ReadersOk (s.chargeFault rl c o lab) :=
  have hset : ReadersOk (s.setReader rl { s.reader rl with
      fault := ⟨some c, some o, lab, some s.day.number, satSucc 255 (s.reader rl).fault.count⟩ }) :=
    hs.setReader ((hs rl).of_fields rfl rfl rfl rfl rfl rfl rfl rfl rfl)
  hset.of_readers rfl

theorem ReadersOk.nakFrame (hs : ReadersOk s) {rl : Fin 4} (hroom : (s.reader rl).room) (c : Nak) (lab : Option Nat) :
    ReadersOk (s.nakFrame rl c lab) :=
  (hs.setReader ((hs rl).reply hroom _)).chargeFault _ _ _ _

theorem ReadersOk.appendStrip (hs : ReadersOk s) {rl : Fin 4} (hroom : (s.reader rl).room) (st : Strip) :
    ReadersOk (s.appendStrip rl st) := by
  have hcal := (hs rl).withCal (Calibration.serve_inRange (hs rl).2.2.2.1)
  exact (hs.setReader (hcal.reply hroom _)).of_readers rfl

/-- A HELD line has room for its second reply (R29, R31). -/
theorem held_room {r : Reader} (h : r.ok) {st : Strip} (hp : r.phase = .held st) : r.room := by
  obtain ⟨_, hoff, _, _, _, _, _, hphase, _⟩ := h
  rw [hp] at hphase
  refine ⟨?_, hphase.2, hphase.1⟩
  cases he : r.enable with
  | true => rfl
  | false => rw [(hoff he).2.1] at hp; cases hp

theorem receiving_room {r : Reader} (h : r.ok) (hon : r.onWire = true) {bs : List Byte} (hp : r.phase = .receiving bs) :
    r.room := by
  obtain ⟨hen, hnl⟩ := Reader.onWire_iff.mp hon
  have hloop : r.inLoop = false := by simp [Reader.inLoop, hnl]
  exact ⟨hen, hloop, (receiving_sendsNothing h hloop hp).2⟩

theorem ReadersOk.completeFrame (hs : ReadersOk s) {rl : Fin 4} (hon : (s.reader rl).onWire = true) {b : List Byte}
    (hp : (s.reader rl).phase = .receiving b) (bs : List Byte) : ReadersOk (s.completeFrame rl bs) := by
  have hroom := receiving_room (hs rl) hon hp
  unfold State.completeFrame
  repeat' split
  · exact hs.nakFrame hroom _ _
  · rename_i f _
    have hcal := (hs rl).withCal (c := .valid f.opens f.gate (s.reader rl).calLife) (hs rl).2.2.1
    exact hs.setReader (hcal.reply hroom _)
  · exact hs.appendStrip hroom _
  · exact (hs.setReader ((hs rl).holdFrame hroom.1 hroom.2.1 hp _)).of_readers rfl

theorem ReadersOk.consumeOnWire (hs : ReadersOk s) {rl : Fin 4} (hon : (s.reader rl).onWire = true)
    (hrep : (s.reader rl).holdsReply = false) (c : FifoChar) : ReadersOk (s.consumeOnWire rl c) := by
  have hen := (Reader.onWire_iff.mp hon).1
  unfold State.consumeOnWire
  dsimp only
  split
  · exact hs
  · exact hs.setReader ((hs rl).huntStep hen hrep _ _)
  · rename_i bs hp
    repeat' split
    · exact hs.setReader (hs rl).hunt
    · exact hs.nakFrame (receiving_room (hs rl) hon hp) _ _
    · exact hs.completeFrame hon hp _
    · exact hs.setReader ((hs rl).receive hen hrep _)

theorem ReadersOk.grantTo (rls : List (Fin 4)) : ∀ {s : State}, ReadersOk s → ReadersOk (grantTo rls s) := by
  induction rls with
  | nil => exact fun hs => hs.of_readers rfl
  | cons rl rest ih =>
    intro s hs
    unfold Sys2Proof.Machine.grantTo
    split
    · rename_i st hp
      have hroom := held_room (hs rl) hp
      split
      · exact (hs.appendStrip hroom st).of_readers rfl
      · exact ih (hs.nakFrame hroom _ _)
    all_goals exact ih hs

theorem ReadersOk.takeRecord (hs : ReadersOk s) (rec : StripRecord) (rest : List StripRecord) :
    ReadersOk (s.takeRecord rec rest) := by
  have hg : ReadersOk (State.grant { s with queue := rest }) := ReadersOk.grantTo _ (hs.of_readers rfl)
  unfold State.takeRecord State.evaluate
  split
  · exact hg.chargeFault _ _ _ _
  · exact hg.of_readers ((place_frame ..).readers rfl)

theorem ReadersOk.takeRequest (hs : ReadersOk s) (cause : CloseCause) : ReadersOk (s.takeRequest cause) := fun rl => by
  have : (s.takeRequest cause).reader rl = (s.reader rl).expireCal := Table.get_map ..
  rw [this]; exact (hs rl).expireCal

theorem reset_ok (ready : Bool) : (Reader.reset ready).ok := by
  simp [Reader.ok, Reader.reset, Reader.inLoop, Reader.sendsReply]

theorem ReadersOk.reset (s : State) (ready : BitVec 4) (straps : BitVec 3) (level : Nat) :
    ReadersOk (s.resetWhole ready straps level) := fun rl => by
  have : (s.resetWhole ready straps level).reader rl = Reader.reset (ready.getLsbD rl.val) := Table.get_ofFn ..
  rw [this]; exact reset_ok _
end

theorem ReadersOk.answer {s : State} (hs : ReadersOk s) (p : Port) (code : Byte) (st : Status) (data : List Byte) :
    ReadersOk (s.answer p code st data) := hs.of_readers ((Frame.answer ..).readers rfl)

theorem parseSetReader_calLife {bs : List Byte} {x : ReaderSettings} (h : parseSetReader bs = .ok x) :
    1 ≤ x.calLife ∧ x.calLife ≤ 255 := by
  unfold parseSetReader at h
  split at h
  · obtain ⟨_, _, h⟩ := need_bind_ok.mp h
    obtain ⟨_, _, h⟩ := need_bind_ok.mp h
    obtain ⟨_, _, h⟩ := need_bind_ok.mp h
    obtain ⟨_, _, h⟩ := need_bind_ok.mp h
    obtain ⟨hlow, h⟩ := check_bind_ok.mp h
    cases h
    exact ⟨of_decide_eq_true hlow, Nat.le_of_lt_succ (BitVec.isLt _)⟩
  · cases h

/-! ### Every row -/

theorem exec_keeps_readers (i : Instr) (s t : State) (h : exec i s = .next t) (hs : ReadersOk s) : ReadersOk t := by
  by_cases hw : (writes i).contains .readers = false
  · exact hs.of_readers ((exec_frame h).readers hw)
  · cases i with
    | powerOnReset ready straps => rw [← Host.Outcome.next.inj h]; exact .reset _ _ _ _
    | restart p ready straps =>
      rw [← Host.Outcome.next.inj h]
      split
      · exact hs
      · exact hs.answer _ _ _ _
      · exact .reset _ _ _ _
    | characterComplete rl data parity stop =>
      rw [← Host.Outcome.next.inj h]
      repeat' split
      · exact hs
      · exact hs.setReader ((hs rl).dispose _)
      · exact hs.setReader ((hs rl).of_fields rfl rfl rfl rfl rfl rfl rfl rfl rfl)
      · exact hs
    | breakDetected rl =>
      rw [← Host.Outcome.next.inj h]
      repeat' split
      · exact hs
      · have hhunt : Reader.ok { s.reader rl with phase := .hunt, withheld := none, breakLatch := true } :=
          (hs rl).hunt.of_fields rfl rfl rfl rfl rfl rfl rfl rfl rfl
        exact (hs.setReader (hhunt.dispose _)).of_readers rfl
      · exact hs.setReader ((hs rl).of_fields rfl rfl rfl rfl rfl rfl rfl rfl rfl)
    | framingCharacterReleased rl =>
      rw [← Host.Outcome.next.inj h]
      split
      · exact hs
      · have hfree : Reader.ok { s.reader rl with withheld := none } :=
          (hs rl).of_fields rfl rfl rfl rfl rfl rfl rfl rfl rfl
        exact hs.setReader (hfree.dispose _)
    | returnToMarkAfterBreak rl =>
      rw [← Host.Outcome.next.inj h]
      exact hs.setReader ((hs rl).of_fields rfl rfl rfl rfl rfl rfl rfl rfl rfl)
    | headReadyChange rl =>
      rw [← Host.Outcome.next.inj h]
      split
      · have hhunt : Reader.ok { s.reader rl with headReady := !(s.reader rl).headReady, delta := true, phase := .hunt } :=
          (hs rl).hunt.of_fields rfl rfl rfl rfl rfl rfl rfl rfl rfl
        exact (hs.setReader hhunt).of_readers rfl
      · exact hs.setReader ((hs rl).of_fields rfl rfl rfl rfl rfl rfl rfl rfl rfl)
    | consumeCharacter rl =>
      rw [← Host.Outcome.next.inj h]
      split
      · rename_i hc
        have hen := consumes_enable hc
        split
        · exact hs
        · rename_i c rest hfifo
          have hrest : Reader.ok { s.reader rl with fifo := rest } :=
            (hs rl).withFifo hen (Nat.le_of_succ_le (by simpa [hfifo] using (hs rl).1))
          split
          · exact hs.setReader (hrest.consumeInLoop (by simp [Reader.inLoop, *]) c)
          · rename_i hl
            have hset := hs.setReader (rl := rl) hrest
            refine hset.consumeOnWire (rl := rl) ?_ ?_ c
            · simp [Reader.onWire, hen, hl]
            · rw [State.setReader_reader_self]
              have hrep : (s.reader rl).holdsReply = false := consumes_noReply hc (Bool.eq_false_of_not_eq_true hl)
              exact hrep
      · exact hs
    | interCharacterTimeout rl =>
      rw [← Host.Outcome.next.inj h]
      repeat' split
      · exact hs.setReader ((hs rl).endTest _)
      · rename_i hr hl
        obtain ⟨hen, bs, hp⟩ := interCharacterRuns_receiving hr
        exact hs.nakFrame (receiving_room (hs rl) (by simp [Reader.onWire, hen, hl]) hp) _ _
      · exact hs
    | holdClockExpiry rl =>
      rw [← Host.Outcome.next.inj h]
      repeat' split
      · exact (hs.nakFrame (held_room (hs rl) ‹_›) _ _).of_readers rfl
      all_goals exact hs
    | replyCharacterSent rl =>
      rw [← Host.Outcome.next.inj h]
      split
      · exact hs.setReader ((hs rl).nextReply ‹_›)
      · exact hs
    | testCharacterSent rl =>
      rw [← Host.Outcome.next.inj h]
      split
      · rename_i hl
        have hen : (s.reader rl).enable = true := by
          simp only [Reader.inLoop, Bool.and_eq_true] at hl; exact hl.1
        split
        · refine hs.setReader (((hs rl).enter hen _).nextTest ?_)
          unfold Reader.enter
          split <;> exact hl
        all_goals exact hs
      · exact hs
    | evaluationTake =>
      rw [← Host.Outcome.next.inj h]
      repeat' split
      · exact hs
      · rename_i rec rest _ _
        refine (ReadersOk.takeRecord (s := { s with drain := s.drain - 1 }) (hs.of_readers rfl) rec rest).of_readers ?_
        unfold State.endDrain; split <;> rfl
      · exact hs.takeRecord _ _
      · exact hs
    | closeInEdge | dayTimerExpiry =>
      rw [← Host.Outcome.next.inj h]
      repeat' split
      all_goals first | exact hs.takeRequest _ | exact hs.of_readers rfl
    | closeDay p =>
      rw [← Host.Outcome.next.inj h]
      refine runCommand_keeps ReadersOk (fun t _ _ _ ht => ht.answer _ _ _ _) hs fun bs a s' st d _ _ _ hact => ?_
      obtain ⟨_, _, rfl⟩ := closeDayAct_done hact
      exact hs.takeRequest _
    | setReader p =>
      rw [← Host.Outcome.next.inj h]
      refine runCommand_keeps ReadersOk (fun t _ _ _ ht => ht.answer _ _ _ _) hs fun bs x s' st d _ hparse _ hact => ?_
      unfold setReaderAct at hact
      rw [← (Answer.done.inj hact).1]
      have hset := hs.setReader (rl := x.rl) ((hs x.rl).configure (parseSetReader_calLife hparse))
      split
      · exact hset.of_readers rfl
      · exact hset
    | readReader p | clearReaderFaults p =>
      rw [← Host.Outcome.next.inj h]
      refine runCommand_keeps ReadersOk (fun t _ _ _ ht => ht.answer _ _ _ _) hs fun bs rl s' st d _ _ _ hact => ?_
      rw [← (Answer.done.inj hact).1]
      exact hs.setReader ((hs rl).of_fields rfl rfl rfl rfl rfl rfl rfl rfl rfl)
    | testReader p =>
      rw [← Host.Outcome.next.inj h]
      refine runCommand_keeps ReadersOk (fun t _ _ _ ht => ht.answer _ _ _ _) hs fun bs rl s' st d _ _ _ hact => ?_
      obtain ⟨hl, rfl⟩ := testReaderAct_done hact
      have hq := (hs rl).queueTest hl .running ((s.reader rl).testSender ++ testFrame)
      refine hs.setReader ?_
      dsimp only
      split
      · exact hq.nextTest hl
      · exact hq
    | _ => exact absurd rfl hw

/-- Settles O57: every operation on a line keeps its bounds, and every row that writes a line is one of them. -/
theorem stepKeepsReaderLines : Obligations.StepKeepsReaderLines :=
  fun _ _ h hs => step_keeps (P := ReadersOk) (fun _ _ h => h) exec_keeps_readers h hs

end Sys2Proof.Machine
end

-- ==== The intake queue and the held frames ====
section
/-! PROOFS. The law of the intake queue (02 R29, R30, R42): frames are HELD only behind a full queue, and the arbiter's
order names each HELD line once. -/
namespace Sys2Proof.Machine

/-! ### What holds a line -/

section
variable {r r' : Reader}

theorem isHeld_iff : r.isHeld = true ↔ r.onWire = true ∧ ∃ st, r.phase = .held st := by
  unfold Reader.isHeld
  cases r.phase <;> simp

theorem isHeld_of_phase (h : ∀ st, r.phase ≠ .held st) : r.isHeld = false :=
  Bool.eq_false_of_not_eq_true fun hh => by
    obtain ⟨_, st, hp⟩ := isHeld_iff.mp hh
    exact h st hp

theorem isHeld_hunt (h : r.phase = .hunt) : r.isHeld = false := isHeld_of_phase fun _ hp => by rw [h] at hp; cases hp

theorem isHeld_receiving {bs : List Byte} (h : r.phase = .receiving bs) : r.isHeld = false :=
  isHeld_of_phase fun _ hp => by rw [h] at hp; cases hp

/-- HELD is a matter of the line's condition and the assembler's phase alone. -/
theorem isHeld_congr (hen : r'.enable = r.enable) (hloop : r'.loopback = r.loopback) (hphase : r'.phase = r.phase) :
    r'.isHeld = r.isHeld := by
  unfold Reader.isHeld Reader.onWire; rw [hen, hloop, hphase]

theorem reply_isHeld (x : Reply) : (r.reply x).isHeld = r.isHeld := by
  unfold Reader.reply; split <;> exact isHeld_congr rfl rfl rfl

theorem enter_isHeld (c : FifoChar) : (r.enter c).isHeld = r.isHeld := by
  unfold Reader.enter; split <;> exact isHeld_congr rfl rfl rfl

theorem dispose_isHeld (c : FifoChar) : (r.dispose c).isHeld = r.isHeld := by
  unfold Reader.dispose
  split
  · exact enter_isHeld c
  · rfl

theorem nextReply_isHeld : r.nextReply.isHeld = r.isHeld := by
  unfold Reader.nextReply; split <;> exact isHeld_congr rfl rfl rfl

theorem nextTest_isHeld : r.nextTest.isHeld = r.isHeld := by
  unfold Reader.nextTest; split <;> exact isHeld_congr rfl rfl rfl

theorem isHeld_inLoop (h : r.loopback = true) : r.isHeld = false := by
  unfold Reader.isHeld Reader.onWire; simp [h]

theorem consumeInLoop_isHeld (h : r.loopback = true) (c : FifoChar) : (r.consumeInLoop c).isHeld = false := by
  refine isHeld_inLoop ?_
  unfold Reader.consumeInLoop
  repeat' split
  all_goals exact h

/-- A line that consumes a character is not HELD (R21). -/
theorem consumes_isHeld (h : r.consumes = true) : r.isHeld = false :=
  isHeld_of_phase fun st hp => by simp [Reader.consumes, hp] at h

/-- A SET-READER that does not act on the assembler keeps the line HELD or not (R35). -/
theorem configure_isHeld {x : ReaderSettings} (h : r.discards x = false) : (r.configure x).isHeld = r.isHeld := by
  cases he : r.enable with
  | true => grind [Reader.discards, Reader.configure, Reader.isHeld, Reader.onWire]
  | false => grind [Reader.discards, Reader.configure, Reader.isHeld, Reader.onWire]
end

/-! ### Operations on the part -/

section
variable {s t : State}

theorem QueueOk.congr (hs : QueueOk s) (hqueue : t.queue = s.queue) (horder : t.heldOrder = s.heldOrder)
    (hheld : ∀ rl, (t.reader rl).isHeld = (s.reader rl).isHeld) : QueueOk t := by
  unfold QueueOk
  simp only [hqueue, horder, hheld]
  exact hs

theorem QueueOk.of_parts (hs : QueueOk s) (hqueue : t.queue = s.queue) (horder : t.heldOrder = s.heldOrder)
    (hreaders : t.readers = s.readers) : QueueOk t :=
  hs.congr hqueue horder fun rl => by rw [State.reader, hreaders]; rfl

theorem QueueOk.setReader (hs : QueueOk s) {rl : Fin 4} {r : Reader} (hr : r.isHeld = (s.reader rl).isHeld) :
    QueueOk (s.setReader rl r) :=
  hs.congr rfl rfl fun j => by
    rw [State.setReader_reader]
    split
    · rename_i h; rw [hr, h]
    · rfl

/-- A line that is HELD no more leaves the arbiter's order. -/
theorem QueueOk.release (hs : QueueOk s) {rl : Fin 4} {r : Reader} (hr : r.isHeld = false) :
    QueueOk ((s.setReader rl r).unhold rl) := by
  obtain ⟨hlen, hfull, hnodup, hheld⟩ := hs
  refine ⟨hlen, fun hne => hfull fun hnil => hne (by simp [State.unhold, hnil]), hnodup.filter _, fun j => ?_⟩
  have hmem : j ∈ ((s.setReader rl r).unhold rl).heldOrder ↔ j ∈ s.heldOrder ∧ j ≠ rl := by
    simp [State.unhold, List.mem_filter]
  have hread : ((s.setReader rl r).unhold rl).reader j = if rl = j then r else s.reader j := State.setReader_reader ..
  rw [hmem, hread, hheld j]
  split
  · rename_i h; simp [h, hr]
  · rename_i h; simp [Ne.symm h]

theorem QueueOk.answer (hs : QueueOk s) (p : Port) (code : Byte) (st : Status) (data : List Byte) :
    QueueOk (s.answer p code st data) :=
  have hf := Frame.answer (s := s) p code st data
  hs.of_parts (hf.queue rfl) (hf.heldOrder rfl) (hf.readers rfl)

theorem chargeFault_isHeld (rl : Fin 4) (c : FaultCode) (o : Origin) (lab : Option Nat) (j : Fin 4) :
    ((s.chargeFault rl c o lab).reader j).isHeld = (s.reader j).isHeld := by
  have hread : (s.chargeFault rl c o lab).reader j = (s.setReader rl { s.reader rl with
      fault := ⟨some c, some o, lab, some s.day.number, satSucc 255 (s.reader rl).fault.count⟩ }).reader j := rfl
  rw [hread, State.setReader_reader]
  split
  · rename_i h; subst h; exact isHeld_congr rfl rfl rfl
  · rfl

theorem QueueOk.chargeFault (hs : QueueOk s) (rl : Fin 4) (c : FaultCode) (o : Origin) (lab : Option Nat) :
    QueueOk (s.chargeFault rl c o lab) := hs.congr rfl rfl (chargeFault_isHeld rl c o lab)

/-- A failing frame leaves its own line hunting and every other as it was (R25). -/
theorem nakFrame_isHeld (rl : Fin 4) (c : Nak) (lab : Option Nat) (j : Fin 4) :
    ((s.nakFrame rl c lab).reader j).isHeld = if rl = j then false else (s.reader j).isHeld := by
  unfold State.nakFrame
  rw [chargeFault_isHeld, State.setReader_reader]
  split
  · rw [reply_isHeld]; exact isHeld_hunt rfl
  · rfl

theorem appendStrip_isHeld (rl : Fin 4) (st : Strip) (j : Fin 4) :
    ((s.appendStrip rl st).reader j).isHeld = if rl = j then false else (s.reader j).isHeld := by
  have hread : (s.appendStrip rl st).reader j = (s.setReader rl
      ({ s.reader rl with phase := .hunt, cal := (s.reader rl).cal.serve }.reply .accepted)).reader j := rfl
  rw [hread, State.setReader_reader]
  split
  · rw [reply_isHeld]; exact isHeld_hunt rfl
  · rfl

/-- A failing frame of a line that is not HELD. -/
theorem QueueOk.nakFrame (hs : QueueOk s) {rl : Fin 4} (hr : (s.reader rl).isHeld = false) (c : Nak)
    (lab : Option Nat) : QueueOk (s.nakFrame rl c lab) :=
  hs.congr rfl rfl fun j => by
    rw [nakFrame_isHeld]
    split
    · rename_i h; subst h; exact hr.symm
    · rfl

/-- A HELD frame that fails leaves the arbiter's order (R29). -/
theorem QueueOk.nakHeld (hs : QueueOk s) (rl : Fin 4) (c : Nak) (lab : Option Nat) :
    QueueOk ((s.nakFrame rl c lab).unhold rl) :=
  (hs.release (rl := rl) (r := Reader.reply { s.reader rl with phase := .hunt } (.nak c))
    ((reply_isHeld _).trans (isHeld_hunt rfl))).congr rfl rfl fun j => chargeFault_isHeld rl _ _ _ j

theorem QueueOk.completeFrame (hs : QueueOk s) {rl : Fin 4} (hon : (s.reader rl).onWire = true)
    (hr : (s.reader rl).isHeld = false) (bs : List Byte) : QueueOk (s.completeFrame rl bs) := by
  have hout : rl ∉ s.heldOrder := fun h => by rw [(hs.2.2.2 rl).mp h] at hr; cases hr
  unfold State.completeFrame
  repeat' split
  · exact hs.nakFrame hr _ _
  · refine hs.setReader ?_
    rw [reply_isHeld, hr]; exact isHeld_hunt rfl
  · rename_i st _ hroom
    simp only [Bool.and_eq_true, decide_eq_true_eq, List.isEmpty_iff] at hroom
    obtain ⟨hlt, hnil⟩ := hroom
    obtain ⟨hlen, hfull, hnodup, hheld⟩ := hs
    refine ⟨by simp only [State.appendStrip, List.length_append, List.length_singleton]; omega,
      fun hne => absurd hnil hne, hnodup, fun j => ?_⟩
    rw [appendStrip_isHeld, State.appendStrip_heldOrder, hheld j]
    split
    · rename_i h; subst h; rw [hr]
    · rfl
  · rename_i st _ hroom
    simp only [Bool.and_eq_true, decide_eq_true_eq, List.isEmpty_iff, not_and] at hroom
    obtain ⟨hlen, hfull, hnodup, hheld⟩ := hs
    refine ⟨hlen, fun _ => ?_, ?_, fun j => ?_⟩
    · by_cases hnil : s.heldOrder = []
      · exact Nat.le_antisymm hlen (Nat.not_lt.mp fun hlt => hroom hlt hnil)
      · exact hfull hnil
    · exact hnodup.append (List.nodup_singleton _) (by simpa using hout)
    · have hread : (s.holdStrip rl st).reader j =
          (s.setReader rl ({ s.reader rl with phase := .held st }.reply .wait)).reader j := rfl
      have hmem : j ∈ (s.holdStrip rl st).heldOrder ↔ j ∈ s.heldOrder ∨ j = rl := by simp [State.holdStrip]
      rw [hread, State.setReader_reader, hmem]
      split
      · rename_i h
        subst h
        rw [reply_isHeld]
        exact ⟨fun _ => isHeld_iff.mpr ⟨hon, st, rfl⟩, fun _ => .inr rfl⟩
      · rename_i h
        rw [hheld j]
        exact ⟨fun h' => h'.resolve_right (Ne.symm h), .inl⟩

theorem QueueOk.consumeOnWire (hs : QueueOk s) {rl : Fin 4} (hon : (s.reader rl).onWire = true)
    (hr : (s.reader rl).isHeld = false) (c : FifoChar) : QueueOk (s.consumeOnWire rl c) := by
  unfold State.consumeOnWire
  dsimp only
  repeat' split
  · exact hs
  · refine hs.setReader ?_
    rw [hr]
    unfold huntStep
    split
    · exact isHeld_receiving rfl
    · exact isHeld_hunt rfl
  · exact hs.setReader (by rw [hr]; exact isHeld_hunt rfl)
  · exact hs.nakFrame hr _ _
  · exact hs.completeFrame hon hr _
  · exact hs.setReader (by rw [hr]; exact isHeld_receiving rfl)

/-! ### The grant -/

/-- The queue with one place free, while `rls` is the order of the lines still HELD (R30, R44). -/
def PlaceFree (rls : List (Fin 4)) (s : State) : Prop :=
  s.queue.length < Config.queueDepth ∧ (rls ≠ [] → s.queue.length + 1 = Config.queueDepth) ∧ rls.Nodup ∧
  ∀ rl, rl ∈ rls ↔ (s.reader rl).isHeld = true

/-- The grant fills the place while a line is HELD with a calibration in force, or leaves no line HELD. -/
theorem queueOk_grantTo (rls : List (Fin 4)) : ∀ {s : State}, PlaceFree rls s → QueueOk (grantTo rls s) := by
  induction rls with
  | nil =>
    rintro s ⟨hlt, _, _, hheld⟩
    exact ⟨Nat.le_of_lt hlt, fun h => absurd rfl h, List.nodup_nil, hheld⟩
  | cons rl rest ih =>
    rintro s ⟨hlt, hfull, hnodup, hheld⟩
    obtain ⟨hout, hrest⟩ := List.nodup_cons.mp hnodup
    obtain ⟨_, st, hp⟩ := isHeld_iff.mp ((hheld rl).mp (List.mem_cons_self ..))
    have hothers : ∀ j, j ∈ rest ↔ (if rl = j then false else (s.reader j).isHeld) = true := fun j => by
      split
      · rename_i h; subst h; simpa using hout
      · rename_i h; rw [← hheld j]; simp [Ne.symm h]
    unfold grantTo
    rw [hp]
    dsimp only
    split
    · have hlen : (s.appendStrip rl st).queue.length = Config.queueDepth := by
        simp only [State.appendStrip, List.length_append, List.length_singleton]
        exact hfull (List.cons_ne_nil _ _)
      refine ⟨Nat.le_of_eq hlen, fun _ => hlen, hrest, fun j => ?_⟩
      have hread : ({ s.appendStrip rl st with heldOrder := rest } : State).reader j = (s.appendStrip rl st).reader j := rfl
      rw [hread, appendStrip_isHeld]
      exact hothers j
    · refine ih ⟨hlt, fun _ => hfull (List.cons_ne_nil _ _), hrest, fun j => ?_⟩
      rw [nakFrame_isHeld]
      exact hothers j

theorem QueueOk.takeRecord (hs : QueueOk s) {rec : StripRecord} {rest : List StripRecord} (hq : s.queue = rec :: rest) :
    QueueOk (s.takeRecord rec rest) := by
  have hg : QueueOk (State.grant { s with queue := rest }) := by
    obtain ⟨hlen, hfull, hnodup, hheld⟩ := hs
    rw [hq] at hlen hfull
    exact queueOk_grantTo s.heldOrder ⟨hlen, hfull, hnodup, hheld⟩
  unfold State.takeRecord State.evaluate
  split
  · exact hg.chargeFault _ _ _ _
  · have hf := place_frame (s := State.grant { s with queue := rest }) rec ‹_› ‹_›
    exact hg.of_parts (hf.queue rfl) (hf.heldOrder rfl) (hf.readers rfl)

theorem QueueOk.takeRequest (hs : QueueOk s) (cause : CloseCause) : QueueOk (s.takeRequest cause) :=
  hs.congr rfl rfl fun rl => by
    have hread : (s.takeRequest cause).reader rl = (s.reader rl).expireCal := Table.get_map ..
    rw [hread]; exact isHeld_congr rfl rfl rfl

theorem QueueOk.reset (s : State) (ready : BitVec 4) (straps : BitVec 3) (level : Nat) :
    QueueOk (s.resetWhole ready straps level) := by
  refine ⟨Nat.zero_le _, fun h => absurd rfl h, List.nodup_nil, fun rl => ?_⟩
  have hread : (s.resetWhole ready straps level).reader rl = Reader.reset (ready.getLsbD rl.val) := Table.get_ofFn ..
  rw [hread, isHeld_hunt rfl]
  exact ⟨fun h => (List.not_mem_nil h).elim, fun h => nomatch h⟩
end

/-! ### Every row -/

theorem exec_keeps_queue (i : Instr) (s t : State) (h : exec i s = .next t) (hs : QueueOk s) : QueueOk t := by
  by_cases hw : (writes i).contains .readers = false ∧ (writes i).contains .heldOrder = false ∧
      (writes i).contains .queue = false
  · have hf := exec_frame h
    exact hs.of_parts (hf.queue hw.2.2) (hf.heldOrder hw.2.1) (hf.readers hw.1)
  · cases i with
    | powerOnReset ready straps => rw [← Host.Outcome.next.inj h]; exact .reset _ _ _ _
    | restart p ready straps =>
      rw [← Host.Outcome.next.inj h]
      split
      · exact hs
      · exact hs.answer _ _ _ _
      · exact .reset _ _ _ _
    | characterComplete rl data parity stop =>
      rw [← Host.Outcome.next.inj h]
      repeat' split
      · exact hs
      · exact hs.setReader (dispose_isHeld _)
      · exact hs.setReader (isHeld_congr rfl rfl rfl)
      · exact hs
    | breakDetected rl =>
      rw [← Host.Outcome.next.inj h]
      repeat' split
      · exact hs
      · exact hs.release ((dispose_isHeld _).trans (isHeld_hunt rfl))
      · exact hs.setReader (isHeld_congr rfl rfl rfl)
    | framingCharacterReleased rl =>
      rw [← Host.Outcome.next.inj h]
      split
      · exact hs
      · exact hs.setReader ((dispose_isHeld _).trans (isHeld_congr rfl rfl rfl))
    | returnToMarkAfterBreak rl =>
      rw [← Host.Outcome.next.inj h]
      exact hs.setReader (isHeld_congr rfl rfl rfl)
    | headReadyChange rl =>
      rw [← Host.Outcome.next.inj h]
      split
      · exact hs.release (isHeld_hunt rfl)
      · exact hs.setReader (isHeld_congr rfl rfl rfl)
    | consumeCharacter rl =>
      rw [← Host.Outcome.next.inj h]
      split
      · rename_i hc
        have hheld := consumes_isHeld hc
        split
        · exact hs
        · rename_i c rest _
          split
          · exact hs.setReader ((consumeInLoop_isHeld ‹_› _).trans hheld.symm)
          · rename_i hl
            have hrest : Reader.isHeld { s.reader rl with fifo := rest } = (s.reader rl).isHeld := isHeld_congr rfl rfl rfl
            refine (hs.setReader hrest).consumeOnWire ?_ ?_ c
            · simp [Reader.onWire, consumes_enable hc, hl]
            · rw [State.setReader_reader_self, hrest, hheld]
      · exact hs
    | interCharacterTimeout rl =>
      rw [← Host.Outcome.next.inj h]
      repeat' split
      · exact hs.setReader ((isHeld_inLoop ‹_›).trans (isHeld_inLoop ‹_›).symm)
      · rename_i hr _
        obtain ⟨_, bs, hp⟩ := interCharacterRuns_receiving hr
        exact hs.nakFrame (isHeld_receiving hp) _ _
      · exact hs
    | holdClockExpiry rl =>
      rw [← Host.Outcome.next.inj h]
      repeat' split
      · exact hs.nakHeld _ _ _
      all_goals exact hs
    | replyCharacterSent rl =>
      rw [← Host.Outcome.next.inj h]
      split
      · exact hs.setReader nextReply_isHeld
      · exact hs
    | testCharacterSent rl =>
      rw [← Host.Outcome.next.inj h]
      repeat' split
      · exact hs.setReader (nextTest_isHeld.trans (enter_isHeld _))
      all_goals exact hs
    | evaluationTake =>
      rw [← Host.Outcome.next.inj h]
      repeat' split
      · exact hs
      · rename_i rec rest hq _
        have htake : QueueOk (State.takeRecord { s with drain := s.drain - 1 } rec rest) :=
          (hs.of_parts (t := { s with drain := s.drain - 1 }) rfl rfl rfl).takeRecord hq
        unfold State.endDrain
        split
        · exact htake.of_parts rfl rfl rfl
        · exact htake
      · exact hs.takeRecord ‹_›
      · exact hs
    | closeInEdge | dayTimerExpiry =>
      rw [← Host.Outcome.next.inj h]
      repeat' split
      all_goals first | exact hs.takeRequest _ | exact hs.of_parts rfl rfl rfl
    | closeDay p =>
      rw [← Host.Outcome.next.inj h]
      refine runCommand_keeps QueueOk (fun t _ _ _ ht => ht.answer _ _ _ _) hs fun bs a s' st d _ _ _ hact => ?_
      obtain ⟨_, _, rfl⟩ := closeDayAct_done hact
      exact hs.takeRequest _
    | setReader p =>
      rw [← Host.Outcome.next.inj h]
      refine runCommand_keeps QueueOk (fun t _ _ _ ht => ht.answer _ _ _ _) hs fun bs x s' st d _ _ _ hact => ?_
      unfold setReaderAct at hact
      rw [← (Answer.done.inj hact).1]
      split
      · rename_i hd
        exact hs.release (isHeld_hunt (by simp [Reader.configure, hd]))
      · rename_i hd
        exact hs.setReader (configure_isHeld (Bool.eq_false_of_not_eq_true hd))
    | readReader p | clearReaderFaults p =>
      rw [← Host.Outcome.next.inj h]
      refine runCommand_keeps QueueOk (fun t _ _ _ ht => ht.answer _ _ _ _) hs fun bs rl s' st d _ _ _ hact => ?_
      rw [← (Answer.done.inj hact).1]
      exact hs.setReader (isHeld_congr rfl rfl rfl)
    | testReader p =>
      rw [← Host.Outcome.next.inj h]
      refine runCommand_keeps QueueOk (fun t _ _ _ ht => ht.answer _ _ _ _) hs fun bs rl s' st d _ _ _ hact => ?_
      obtain ⟨hl, rfl⟩ := testReaderAct_done hact
      refine hs.setReader ?_
      dsimp only
      split
      · exact nextTest_isHeld.trans (isHeld_congr rfl rfl rfl)
      · exact isHeld_congr rfl rfl rfl
    | _ => exact absurd ⟨rfl, rfl, rfl⟩ hw

/-- Settles O56: a frame is HELD only when it finds the queue full or others HELD, and a grant fills the place it finds. -/
theorem stepKeepsIntakeQueue : Obligations.StepKeepsIntakeQueue :=
  fun _ _ h hs => step_keeps (fun _ _ h => h) exec_keeps_queue h hs

end Sys2Proof.Machine
end

-- ==== The days of the records and of the points ====
section
/-! PROOFS. The law of the days (03 R46, R47, 04 R71, R73, 07 R117, R124): the day number, the closing day of a pass, the
stamps of the queue and the points of the rings, through the take, the close request and the steps of the pass. -/
namespace Sys2Proof.Machine

/-! ### What the law speaks of -/

/-- The part of the day unit that the law speaks of. -/
def DayUnit.clock (d : DayUnit) : Nat × DayState × Option LastClose := (d.number, d.state, d.last)

/-- The lines' rings, none for an UNUSED one. -/
def State.rings (s : State) : Table (Option (List Point)) 96 := s.lines.map (Option.map LineCtx.ring)

theorem State.get_rings (s : State) (n : Fin 96) : s.rings.get n = (s.line n).map LineCtx.ring := Table.get_map ..

theorem rings_of_bareLines {s t : State} (h : t.bareLines = s.bareLines) : t.rings = s.rings := by
  have hcomp : ∀ u : State, u.rings = u.bareLines.map (Option.map LineCtx.ring) := fun u => by
    apply Table.ext; intro n
    rw [State.get_rings, Table.get_map, State.bareLines, Table.get_map, Option.map_map]; rfl
  rw [hcomp t, hcomp s, h]

theorem rings_of_quiet {s t : State} (h : t.quiet = s.quiet) : t.rings = s.rings :=
  rings_of_bareLines ((Frame.of_quiet h).bareLines rfl)

theorem rings_setLine {s : State} {n : Fin 96} {c c' : LineCtx} (hc : s.line n = some c) (h : c'.ring = c.ring) :
    (s.setLine n (some c')).rings = s.rings :=
  Table.map_set_same _ _ _ _ (by rw [show s.lines.get n = some c from hc]; simp [h])

theorem get_rings_setLine (s : State) (n m : Fin 96) (c : LineCtx) :
    (s.setLine n (some c)).rings.get m = if n = m then some c.ring else s.rings.get m := by
  rw [State.get_rings, State.setLine_line, State.get_rings]
  split <;> rfl

/-- The law of a day unit's rings. -/
def RingsOk (s : State) : Prop := ∀ n ring, s.rings.get n = some ring → ringOk s.day n ring

/-- The law of the day unit alone. -/
def DayUnit.Ok (d : DayUnit) : Prop :=
  1 ≤ d.number ∧ d.number ≤ Config.lastDay ∧ (d.state ≠ .dayOpen → ∃ c, d.last = some ⟨d.number - 1, c⟩)

theorem dayOk_iff {s : State} : DayOk s ↔ s.day.Ok ∧ QueueDays s ∧ RingsOk s := by
  have hrings : RingsOk s ↔ ∀ n c, s.line n = some c → ringOk s.day n c.ring := by
    simp only [RingsOk, State.get_rings, Option.map_eq_some_iff]
    constructor
    · intro h n c hc; exact h n _ ⟨c, hc, rfl⟩
    · rintro h n _ ⟨c, hc, rfl⟩; exact h n c hc
  rw [hrings, DayOk, DayUnit.Ok]
  simp only [and_assoc]

section
variable {d d' : DayUnit} {n : Fin 96} {ring : List Point}

theorem clock_parts (h : d'.clock = d.clock) : d'.number = d.number ∧ d'.state = d.state ∧ d'.last = d.last := by
  simpa [DayUnit.clock] using h

theorem ringOk.congr (hr : ringOk d n ring) (h : d'.clock = d.clock) : ringOk d' n ring := by
  obtain ⟨hnum, hst, _⟩ := clock_parts h
  simpa only [ringOk, provisionalDay, hnum, hst] using hr

theorem DayUnit.Ok.congr (hd : d.Ok) (h : d'.clock = d.clock) : d'.Ok := by
  obtain ⟨hnum, hst, hlast⟩ := clock_parts h
  simpa only [DayUnit.Ok, hnum, hst, hlast] using hd

theorem QueueDays.congr {s t : State} (hs : QueueDays s) (h : t.day.clock = s.day.clock) (hqueue : t.queue = s.queue)
    (hdrain : t.drain = s.drain) : QueueDays t := by
  obtain ⟨hnum, hst, _⟩ := clock_parts h
  simpa only [QueueDays, hnum, hst, hqueue, hdrain] using hs

theorem DayOk.congr {s t : State} (hs : DayOk s) (hclock : t.day.clock = s.day.clock) (hqueue : t.queue = s.queue)
    (hdrain : t.drain = s.drain) (hrings : t.rings = s.rings) : DayOk t := by
  obtain ⟨hday, hq, hr⟩ := dayOk_iff.mp hs
  exact dayOk_iff.mpr ⟨hday.congr hclock, hq.congr hclock hqueue hdrain,
    fun n ring h => (hr n ring (hrings ▸ h)).congr hclock⟩

theorem DayOk.answer {s : State} (hs : DayOk s) (p : Port) (code : Byte) (st : Status) (data : List Byte) :
    DayOk (s.answer p code st data) :=
  have hf := Frame.answer (s := s) p code st data
  hs.congr (by rw [hf.day rfl]) (hf.queue rfl) (hf.drain rfl) (rings_of_bareLines (hf.bareLines rfl))

/-! ### The rings -/

theorem ringAt_some {day : Nat} {pt : Point} (h : ringAt ring day = some pt) : pt ∈ ring ∧ pt.day = day :=
  ⟨List.mem_of_find?_eq_some h, by simpa using List.find?_some h⟩

theorem ringAt_eq_none {day : Nat} (h : ringAt ring day = none) : ∀ q ∈ ring, q.day ≠ day := by
  simpa [ringAt] using h

/-- A ring in strictly increasing day order has one point of a day. -/
theorem ringAt_unique (h : (ring.map Point.day).Pairwise (· < ·)) {day : Nat} {pt q : Point}
    (hpt : ringAt ring day = some pt) (hq : q ∈ ring) (hday : q.day = day) : q = pt := by
  obtain ⟨hmem, hd⟩ := ringAt_some hpt
  exact List.inj_on_of_nodup_map (h.imp fun hlt => Nat.ne_of_lt hlt) hq hmem (hday.trans hd.symm)

theorem ringReplace_days (ring : List Point) (pt : Point) : (ringReplace ring pt).map Point.day = ring.map Point.day := by
  rw [ringReplace, List.map_map]
  refine List.map_congr_left fun q _ => ?_
  dsimp only [Function.comp_apply]
  split
  · exact Eq.symm ‹_›
  · rfl

theorem mem_ringReplace {pt q : Point} (h : q ∈ ringReplace ring pt) : q = pt ∨ q ∈ ring ∧ q.day ≠ pt.day := by
  obtain ⟨x, hx, rfl⟩ := List.mem_map.mp h
  split
  · exact .inl rfl
  · exact .inr ⟨hx, ‹_›⟩

/-- A point replaced by one of its day, PROVISIONAL only on a day that allows it. -/
theorem ringOk.replace (hr : ringOk d n ring) {pt pt' : Point} (hpt : pt ∈ ring) (hday : pt'.day = pt.day)
    (hprov : pt'.state = .provisional → provisionalDay d n pt'.day) : ringOk d n (ringReplace ring pt') := by
  obtain ⟨hlen, hsorted, hall⟩ := hr
  refine ⟨by simpa [ringReplace] using hlen, by rw [ringReplace_days]; exact hsorted, fun q hq => ?_⟩
  obtain rfl | ⟨hq, _⟩ := mem_ringReplace hq
  · obtain ⟨hle, hdrain, _⟩ := hall pt hpt
    exact ⟨hday ▸ hle, fun hst => hday ▸ hdrain hst, hprov⟩
  · exact hall q hq

/-- A point of a later day than the others joins the ring. -/
theorem ringOk.append (hr : ringOk d n ring) {pt : Point} (hlater : ∀ q ∈ ring, q.day < pt.day) (hle : pt.day ≤ d.number)
    (hdrain : d.state = .draining → pt.day < d.number)
    (hprov : pt.state = .provisional → provisionalDay d n pt.day) : ringOk d n (ringAppend ring pt) := by
  obtain ⟨hlen, hsorted, hall⟩ := hr
  have hsub : (if ring.length < Config.ringDepth then ring else ring.drop 1).Sublist ring := by
    split
    · exact List.Sublist.refl _
    · exact List.drop_sublist ..
  refine ⟨?_, ?_, fun q hq => ?_⟩
  · simp only [ringAppend, List.length_append, List.length_singleton]
    have hdepth : 1 ≤ Config.ringDepth := by decide
    split
    · omega
    · rw [List.length_drop]; omega
  · rw [ringAppend, List.map_append, List.pairwise_append]
    refine ⟨hsorted.sublist (hsub.map _), List.pairwise_singleton .., fun a ha b hb => ?_⟩
    obtain ⟨q, hq, rfl⟩ := List.mem_map.mp ha
    obtain rfl : b = pt.day := by simpa using hb
    exact hlater q (hsub.subset hq)
  · rcases List.mem_append.mp hq with hq | hq
    · exact hall q (hsub.subset hq)
    · rw [List.mem_singleton.mp hq]; exact ⟨hle, hdrain, hprov⟩

theorem ringOk_nil : ringOk d n [] := ⟨Nat.zero_le _, List.Pairwise.nil, fun _ h => nomatch h⟩

/-- A ring after the day state moves on within a pass. -/
theorem ringOk.move (hr : ringOk d n ring) (hnum : d'.number = d.number) (hst : d'.state ≠ .draining)
    (hprov : ∀ q ∈ ring, q.state = .provisional → provisionalDay d n q.day → provisionalDay d' n q.day) :
    ringOk d' n ring := by
  obtain ⟨hlen, hsorted, hall⟩ := hr
  refine ⟨hlen, hsorted, fun q hq => ?_⟩
  obtain ⟨hle, _, hp⟩ := hall q hq
  exact ⟨hnum ▸ hle, fun h => absurd h hst, fun h => hprov q hq h (hp h)⟩

/-- The placement of a record whose day is no earlier than the ring's points and may be PROVISIONAL. -/
theorem placed_ring {c : LineCtx} (hr : ringOk d n c.ring) {rec : StripRecord} (hlater : ∀ q ∈ c.ring, q.day ≤ rec.day)
    (hle : rec.day ≤ d.number) (hdrain : d.state = .draining → rec.day < d.number) (hprov : provisionalDay d n rec.day)
    (part : AimPart) (x : Computed) : ringOk d n (placed c rec part x).ring := by
  cases hat : ringAt c.ring rec.day with
  | none =>
    have hp : placementOf c.ring rec = .newPoint := by simp [placementOf, hat]
    simp only [placed, hp]
    exact hr.append (fun q hq => Nat.lt_of_le_of_ne (hlater q hq) (ringAt_eq_none hat q hq)) hle hdrain fun _ => hprov
  | some pt =>
    obtain ⟨hmem, hday⟩ := ringAt_some hat
    unfold placed
    split
    · rename_i hp
      simp only [placementOf, hat] at hp
      repeat' split at hp
      all_goals cases hp
    · rename_i pt' hp
      obtain rfl : pt = pt' := by
        simp only [placementOf, hat] at hp
        repeat' split at hp
        all_goals cases hp
        rfl
      exact hr.replace (pt' := rerunPoint pt rec x) hmem rfl fun _ => hday ▸ hprov
    · rename_i pt' hp
      obtain rfl : pt = pt' := by
        simp only [placementOf, hat] at hp
        repeat' split at hp
        all_goals cases hp
        rfl
      exact hr.replace (pt' := { pt with cross := some (crossPart pt rec x) }) hmem rfl fun _ => hday ▸ hprov
    · exact hr
end

/-! ### The take -/

section
variable {s t : State}

theorem takeRecord_queue (s : State) (rec : StripRecord) (rest : List StripRecord) :
    (s.takeRecord rec rest).queue = rest ∨ ∃ st, (s.takeRecord rec rest).queue = rest ++ [⟨st, s.day.number⟩] := by
  have hq : (s.takeRecord rec rest).queue = (State.grant { s with queue := rest }).queue := by
    unfold State.takeRecord State.evaluate
    split
    · rfl
    · exact (place_frame ..).queue rfl
  rw [hq]
  exact grantTo_queue s.heldOrder { s with queue := rest }

theorem takeRecord_drain (s : State) (rec : StripRecord) (rest : List StripRecord) :
    (s.takeRecord rec rest).drain = s.drain := by
  have hg : (State.grant { s with queue := rest }).drain = s.drain := grant_frame.drain rfl
  unfold State.takeRecord State.evaluate
  split
  · exact hg
  · exact ((place_frame ..).drain rfl).trans hg

theorem takeRecord_rings {rec : StripRecord} {rest : List StripRecord} {m : Fin 96} {ring : List Point}
    (h : (s.takeRecord rec rest).rings.get m = some ring) :
    s.rings.get m = some ring ∨ ∃ c part x, s.line m = some c ∧ ring = (placed c rec part x).ring := by
  have hlines : (State.grant { s with queue := rest }).lines = s.lines := grant_frame.lines rfl rfl
  have hrings : (State.grant { s with queue := rest }).rings = s.rings := by rw [State.rings, hlines]; rfl
  unfold State.takeRecord State.evaluate at h
  split at h
  · exact .inl (hrings ▸ h)
  · rename_i c l hc
    have hline : s.line rec.strip.line = some c := by
      have := (recheck_ok hc).1
      rwa [State.line, hlines] at this
    unfold State.place at h
    dsimp only at h
    rw [rings_of_quiet (State.offerAll_quiet ..), get_rings_setLine] at h
    split at h
    · rename_i heq; subst heq; cases h; exact .inr ⟨c, _, _, hline, rfl⟩
    · exact .inl (hrings ▸ h)

/-- The rings after the take of a record of the current day while the day is OPEN, or of the closing day while it
drains. -/
theorem takeRecord_ringsOk (hr : RingsOk s) {rec : StripRecord} {rest : List StripRecord}
    (hstamp : s.day.state = .dayOpen ∧ rec.day = s.day.number ∨ s.day.state = .draining ∧ rec.day + 1 = s.day.number)
    {m : Fin 96} {ring : List Point} (h : (s.takeRecord rec rest).rings.get m = some ring) : ringOk s.day m ring := by
  obtain h | ⟨c, part, x, hc, rfl⟩ := takeRecord_rings h
  · exact hr m ring h
  · have hring : ringOk s.day m c.ring := hr m c.ring (by rw [State.get_rings, hc]; rfl)
    have ⟨_, _, hall⟩ := hring
    refine placed_ring hring (fun q hq => ?_) ?_ (fun hst => ?_) ?_ part x
    · obtain ⟨hle, hdrain, _⟩ := hall q hq
      obtain ⟨_, hd⟩ | ⟨hst, hd⟩ := hstamp
      · exact hd ▸ hle
      · have := hdrain hst; omega
    · obtain ⟨_, hd⟩ | ⟨_, hd⟩ := hstamp <;> omega
    · obtain ⟨hst', _⟩ | ⟨_, hd⟩ := hstamp
      · rw [hst] at hst'; cases hst'
      · omega
    · obtain ⟨hst, hd⟩ | ⟨hst, hd⟩ := hstamp <;> simp only [provisionalDay, hst] <;> exact hd

/-- The queue's days after a record leaves the head and another of the current day may join. -/
theorem queueDays_take {rest : List StripRecord} {number k : Nat} {q : List StripRecord}
    (hq : q = rest ∨ ∃ st, q = rest ++ [⟨st, number⟩]) (hdrop : ∀ x ∈ rest.drop k, x.day = number)
    (htake : ∀ x ∈ rest.take k, x.day + 1 = number) (hk : k ≤ rest.length) :
    (∀ x ∈ q.drop k, x.day = number) ∧ (∀ x ∈ q.take k, x.day + 1 = number) ∧ k ≤ q.length := by
  obtain rfl | ⟨st, rfl⟩ := hq
  · exact ⟨hdrop, htake, hk⟩
  · rw [List.drop_append_of_le_length hk, List.take_append_of_le_length hk, List.length_append]
    refine ⟨fun x hx => ?_, htake, by omega⟩
    rcases List.mem_append.mp hx with hx | hx
    · exact hdrop x hx
    · rw [List.mem_singleton.mp hx]

theorem DayOk.takeOpen (hs : DayOk s) (hst : s.day.state = .dayOpen) {rec : StripRecord} {rest : List StripRecord}
    (hq : s.queue = rec :: rest) : DayOk (s.takeRecord rec rest) := by
  obtain ⟨hday, ⟨hdrop, htake, hlen, hdrain⟩, hr⟩ := dayOk_iff.mp hs
  have hzero : s.drain = 0 := by
    by_contra hne
    have := hdrain.mp (Nat.pos_of_ne_zero hne)
    rw [hst] at this; cases this
  rw [hq, hzero] at hdrop
  have hrec : rec.day = s.day.number := hdrop rec (by simp)
  obtain ⟨h1, h2, h3⟩ := queueDays_take (k := 0) (takeRecord_queue s rec rest)
    (fun x hx => hdrop x (List.mem_cons_of_mem _ hx)) (by simp) (Nat.zero_le _)
  have hd := takeRecord_desk s rec rest
  refine dayOk_iff.mpr ⟨by rw [hd]; exact hday, ?_, fun m ring h => ?_⟩
  · unfold QueueDays
    rw [hd, takeRecord_drain, hzero]
    exact ⟨h1, h2, h3, by rw [hst]; simp⟩
  · rw [hd]; exact takeRecord_ringsOk hr (.inl ⟨hst, hrec⟩) h

theorem DayOk.takeDraining (hs : DayOk s) (hst : s.day.state = .draining) {rec : StripRecord} {rest : List StripRecord}
    (hq : s.queue = rec :: rest) : DayOk (State.takeRecord { s with drain := s.drain - 1 } rec rest).endDrain := by
  obtain ⟨hday, ⟨hdrop, htake, hlen, hdrain⟩, hr⟩ := dayOk_iff.mp hs
  have hpos := hdrain.mpr hst
  obtain ⟨k, hk⟩ : ∃ k, s.drain = k + 1 := ⟨s.drain - 1, by omega⟩
  have hk' : s.drain - 1 = k := by omega
  rw [hq, hk] at hdrop htake hlen
  have hrec : rec.day + 1 = s.day.number := htake rec (by simp)
  rw [hk']
  obtain ⟨h1, h2, h3⟩ := queueDays_take (k := k) (takeRecord_queue { s with drain := k } rec rest)
    (fun x hx => hdrop x (by simpa using hx)) (fun x hx => htake x (by simp [hx])) (by simpa using hlen)
  have hd := takeRecord_desk { s with drain := k } rec rest
  have hdr := takeRecord_drain { s with drain := k } rec rest
  have hrings : ∀ m ring, (State.takeRecord { s with drain := k } rec rest).rings.get m = some ring →
      ringOk s.day m ring := fun m ring h =>
    takeRecord_ringsOk (s := { s with drain := k }) hr (.inr ⟨hst, hrec⟩) h
  generalize State.takeRecord { s with drain := k } rec rest = u at h1 h2 h3 hd hdr hrings
  have hd' : u.day = s.day := hd
  have hdr' : u.drain = k := hdr
  unfold State.endDrain
  split
  · rename_i hz
    obtain ⟨hlow, hhigh, hlast⟩ := hday
    refine dayOk_iff.mpr ⟨?_, ?_, fun m ring h => ?_⟩
    · refine ⟨by rw [State.setDay_day, hd']; exact hlow, by rw [State.setDay_day, hd']; exact hhigh, fun _ => ?_⟩
      rw [State.setDay_day, hd']
      exact hlast (by rw [hst]; exact fun h => nomatch h)
    · unfold QueueDays
      simp only [State.setDay_day, State.setDay_queue, State.setDay_drain, hd', hdr']
      rw [hdr'] at hz
      exact ⟨h1, h2, h3, by simp [hz]⟩
    · refine (hrings m ring h).move (by rw [State.setDay_day, hd']) (fun h => nomatch h) fun q _ _ hp => ?_
      rw [State.setDay_day, hd']
      simpa only [provisionalDay, hst] using hp
  · rename_i hz
    refine dayOk_iff.mpr ⟨by rw [hd']; exact hday, ?_, fun m ring h => by rw [hd']; exact hrings m ring h⟩
    unfold QueueDays
    rw [hd', hdr']
    rw [hdr'] at hz
    exact ⟨h1, h2, h3, by simp [hst]; omega⟩

/-! ### The close request -/

theorem DayOk.takeRequest (hs : DayOk s) (hst : s.day.state = .dayOpen) (hnum : s.day.number < Config.lastDay)
    (cause : CloseCause) : DayOk (s.takeRequest cause) := by
  obtain ⟨⟨hlow, _, _⟩, ⟨hdrop, _, _, hdrain⟩, hr⟩ := dayOk_iff.mp hs
  have hzero : s.drain = 0 := by
    by_contra hne
    have := hdrain.mp (Nat.pos_of_ne_zero hne)
    rw [hst] at this; cases this
  rw [hzero, List.drop_zero] at hdrop
  have hday : (s.takeRequest cause).day = s.day.request cause s.queue.length := rfl
  refine dayOk_iff.mpr ⟨⟨?_, ?_, fun _ => ⟨cause, ?_⟩⟩, ⟨?_, ?_, le_refl _, ?_⟩, fun m ring h => ?_⟩
  · rw [hday]; simp [DayUnit.request]
  · rw [hday]; exact hnum
  · rw [hday]; simp [DayUnit.request]
  · simp [State.takeRequest]
  · intro x hx
    have hx' : x ∈ s.queue := List.mem_of_mem_take hx
    rw [hday]; simp [DayUnit.request, hdrop x hx']
  · rw [hday]
    simp only [State.takeRequest, DayUnit.request, stateAfterRequest]
    split <;> simp_all [Nat.pos_iff_ne_zero]
  · obtain ⟨hlen, hsorted, hall⟩ := hr m ring h
    refine ⟨hlen, hsorted, fun q hq => ?_⟩
    obtain ⟨hle, _, hp⟩ := hall q hq
    rw [hday]
    refine ⟨Nat.le_succ_of_le hle, fun _ => Nat.lt_succ_of_le hle, fun hprov => ?_⟩
    have hp := hp hprov
    simp only [provisionalDay, hst] at hp
    simp only [DayUnit.request, stateAfterRequest]
    split <;> simp [provisionalDay, hp]

/-! ### The steps of the pass -/

/-- A step of the pass that leaves the queue and goes on to a state that neither drains nor opens the day. -/
theorem DayOk.goOn (hs : DayOk s) (hst : s.day.state ≠ .dayOpen) (hst' : s.day.state ≠ .draining)
    (hnum : t.day.number = s.day.number) (hlast : t.day.last = s.day.last) (hnext : t.day.state ≠ .draining)
    (hqueue : t.queue = s.queue) (hdrain : t.drain = s.drain)
    (hrings : ∀ n ring, t.rings.get n = some ring → ringOk t.day n ring) : DayOk t := by
  obtain ⟨⟨hlow, hhigh, hcl⟩, ⟨h1, h2, h3, h4⟩, _⟩ := dayOk_iff.mp hs
  refine dayOk_iff.mpr ⟨⟨hnum ▸ hlow, hnum ▸ hhigh, fun _ => ?_⟩, ?_, hrings⟩
  · rw [hlast, hnum]; exact hcl hst
  · unfold QueueDays
    rw [hqueue, hdrain, hnum]
    exact ⟨h1, h2, h3, fun h => absurd (h4.mp h) hst', fun h => absurd h hnext⟩

/-- A step of the pass that leaves the rings and the days on which points may be PROVISIONAL. -/
theorem DayOk.step (hs : DayOk s) (hst : s.day.state ≠ .dayOpen) (hst' : s.day.state ≠ .draining)
    (hnum : t.day.number = s.day.number) (hlast : t.day.last = s.day.last) (hnext : t.day.state ≠ .draining)
    (hqueue : t.queue = s.queue) (hdrain : t.drain = s.drain) (hrings : t.rings = s.rings)
    (hprov : ∀ n day, provisionalDay s.day n day → provisionalDay t.day n day) : DayOk t :=
  hs.goOn hst hst' hnum hlast hnext hqueue hdrain fun n ring h =>
    ((dayOk_iff.mp hs).2.2 n ring (hrings ▸ h)).move hnum hnext fun q _ _ hp => hprov n q.day hp

/-- The closing day of a pass is the day before the current one (R124). -/
theorem closingDay_of_ok {d : DayUnit} (hd : d.Ok) (hst : d.state ≠ .dayOpen) : d.closingDay + 1 = d.number := by
  obtain ⟨hlow, _, hlast⟩ := hd
  obtain ⟨c, hc⟩ := hlast hst
  simp only [DayUnit.closingDay, hc, Option.map_some, Option.getD_some]
  omega

/-- The rings after the finalisation step of a line: its point of the closing day is PROVISIONAL no more (R130). -/
theorem finalise_rings {n m : Fin 96} {ring : List Point} (h : (s.finalise n).rings.get m = some ring) :
    (n ≠ m ∧ s.rings.get m = some ring) ∨
      n = m ∧ ∃ old, s.rings.get n = some old ∧
        ((∀ pt, ringAt old s.day.closingDay = some pt → pt.state ≠ .provisional) ∧ ring = old ∨
          ∃ pt pt', ringAt old s.day.closingDay = some pt ∧ ring = ringReplace old pt' ∧ pt'.day = pt.day ∧
            pt'.state ≠ .provisional) := by
  by_cases hnm : n = m
  · subst hnm
    refine .inr ⟨rfl, ?_⟩
    unfold State.finalise at h
    split at h
    · rename_i hnone
      rw [State.get_rings, hnone] at h
      cases h
    · rename_i c hc
      have hold : s.rings.get n = some c.ring := by rw [State.get_rings, hc]; rfl
      refine ⟨c.ring, hold, ?_⟩
      split at h
      · rename_i hat
        exact .inl ⟨fun pt hpt => (by rw [hat] at hpt; cases hpt), Option.some.inj (h.symm.trans hold)⟩
      · rename_i pt hat
        split at h
        · refine .inr ⟨pt, ?_⟩
          unfold State.finalisePoint at h
          dsimp only at h
          have hq : ∀ (u : State) (d : DayUnit), (u.setDay d).rings = u.rings := fun _ _ => rfl
          rw [hq, rings_of_quiet (State.offerAll_quiet ..), get_rings_setLine, if_pos rfl] at h
          cases h
          exact ⟨finalPoint pt _ _ _, hat, rfl, rfl, fun h => nomatch h⟩
        · rename_i hst
          exact .inl ⟨fun pt' hpt => (by rw [hat] at hpt; cases hpt; exact hst), Option.some.inj (h.symm.trans hold)⟩
  · refine .inl ⟨hnm, ?_⟩
    unfold State.finalise at h
    split at h
    · exact h
    · split at h
      · exact h
      · split at h
        · unfold State.finalisePoint at h
          dsimp only at h
          have hq : ∀ (u : State) (d : DayUnit), (u.setDay d).rings = u.rings := fun _ _ => rfl
          rw [hq, rings_of_quiet (State.offerAll_quiet ..), get_rings_setLine, if_neg hnm] at h
          exact h
        · exact h

theorem finalise_clock (s : State) (n : Fin 96) : (s.finalise n).day.clock = s.day.clock := by
  unfold State.finalise
  repeat' split
  case h_2.isTrue => simp [State.finalisePoint, DayUnit.clock]
  all_goals rfl

/-- Where the pass stands after the finalisation step of line n, a point of a later line may still be PROVISIONAL. -/
theorem finalised_provisional {d d' : DayUnit} {n m : Fin 96} {day : Nat} (hst : d.state = .closing (.finalisation n))
    (hst' : d'.state = stateAfter (.finalisation n)) (hnum : d'.number = d.number) (hne : n ≠ m)
    (hp : provisionalDay d m day) : provisionalDay d' m day := by
  simp only [provisionalDay, hst] at hp
  obtain ⟨hle, hday⟩ := hp
  have hlt : n.val + 1 ≤ m.val := Nat.lt_of_le_of_ne hle (Fin.val_ne_of_ne hne)
  have hmore : n.val + 1 < 96 := Nat.lt_of_le_of_lt hlt m.isLt
  simp only [provisionalDay, hst', stateAfter, nextItem_more hmore, hnum]
  exact ⟨hlt, hday⟩

theorem stateAfter_finalisation (n : Fin 96) : stateAfter (.finalisation n) ≠ .draining := by
  simp only [stateAfter]; split <;> exact fun h => nomatch h

theorem DayOk.finalise (hs : DayOk s) {n : Fin 96} (hst : s.day.state = .closing (.finalisation n)) :
    DayOk ((s.finalise n).advance (.finalisation n)) := by
  have hf : Frame (writes .finalisationStep) s (s.finalise n) := finalise_frame n
  obtain ⟨hnum, _, hlast⟩ := clock_parts (finalise_clock s n)
  obtain ⟨hday, _, hr⟩ := dayOk_iff.mp hs
  have hopen : s.day.state ≠ .dayOpen := by rw [hst]; exact fun h => nomatch h
  have hclosing := closingDay_of_ok hday hopen
  refine hs.goOn hopen (by rw [hst]; exact fun h => nomatch h) hnum hlast (stateAfter_finalisation n) (hf.queue rfl)
    (hf.drain rfl) fun m ring h => ?_
  have hmove : ∀ {ring}, ringOk s.day m ring →
      (∀ q ∈ ring, q.state = .provisional → provisionalDay s.day m q.day → n ≠ m) →
      ringOk ((s.finalise n).advance (.finalisation n)).day m ring := fun hring hne =>
    hring.move hnum (stateAfter_finalisation n) fun q hq hst' hp =>
      finalised_provisional hst rfl hnum (hne q hq hst' hp) hp
  have hprov : ∀ {day}, provisionalDay s.day m day → day = s.day.closingDay := fun {day} hp => by
    simp only [provisionalDay, hst] at hp
    omega
  obtain ⟨hne, h⟩ | ⟨rfl, old, hold, ⟨hnot, rfl⟩ | ⟨pt, pt', hat, rfl, hpd, hps⟩⟩ := finalise_rings h
  · exact hmove (hr m ring h) fun _ _ _ _ => hne
  · refine hmove (hr n ring hold) fun q hq hst' hp => ?_
    cases hat : ringAt ring s.day.closingDay with
    | none => exact absurd (hprov hp) (ringAt_eq_none hat q hq)
    | some pt =>
      obtain rfl := ringAt_unique (hr n ring hold).2.1 hat hq (hprov hp)
      exact absurd hst' (hnot q hat)
  · have hold' := hr n old hold
    obtain ⟨hmem, hptday⟩ := ringAt_some hat
    refine hmove (hold'.replace hmem hpd fun h => absurd h hps) fun q hq hst' hp => ?_
    obtain rfl | ⟨_, hqd⟩ := mem_ringReplace hq
    · exact absurd hst' hps
    · exact absurd ((hprov hp).trans (hptday.symm.trans hpd.symm)) hqd

/-- In the stages after finalisation and while the transfer waits, no point is PROVISIONAL. -/
theorem provisionalDay_false {d : DayUnit} {n : Fin 96} {day : Nat} (hd : d.state ≠ .dayOpen) (hr : d.state ≠ .draining)
    (hc : ∀ k, d.state ≠ .closing (.consensus k)) (hf : ∀ m, d.state ≠ .closing (.finalisation m)) :
    ¬ provisionalDay d n day := by
  unfold provisionalDay
  split <;> simp_all

theorem DayOk.consensus (hs : DayOk s) {k : Fin 16} (hst : s.day.state = .closing (.consensus k)) :
    DayOk ((s.consensus k).advance (.consensus k)) := by
  have hf : Frame (writes .consensusStep) s (s.consensus k) := consensus_frame k
  have hclock : (s.consensus k).day.number = s.day.number ∧ (s.consensus k).day.last = s.day.last := by
    unfold State.consensus
    split
    · exact ⟨rfl, rfl⟩
    · simp
  have hnext : ∀ n day, day + 1 = s.day.number → provisionalDay ((s.consensus k).advance (.consensus k)).day n day := by
    intro n day hd
    have hst' : ((s.consensus k).advance (.consensus k)).day.state = stateAfter (.consensus k) := rfl
    have hnum : ((s.consensus k).advance (.consensus k)).day.number = s.day.number := hclock.1
    simp only [stateAfter] at hst'
    split at hst'
    · simp only [provisionalDay, hst', hnum]; exact hd
    · simp only [provisionalDay, hst', hnum]; exact ⟨Fin.zero_le _, hd⟩
  refine hs.step (by rw [hst]; exact fun h => nomatch h) (by rw [hst]; exact fun h => nomatch h) hclock.1 hclock.2 ?_
    (hf.queue rfl) (hf.drain rfl) (rings_of_bareLines (hf.bareLines rfl)) fun n day hp => hnext n day ?_
  · have hst' : ((s.consensus k).advance (.consensus k)).day.state = stateAfter (.consensus k) := rfl
    rw [hst']; simp only [stateAfter]; split <;> exact fun h => nomatch h
  · simpa only [provisionalDay, hst] using hp

/-- A step of the stages after finalisation. -/
theorem DayOk.lateStep (hs : DayOk s) (hlate : ∀ n day, ¬ provisionalDay s.day n day)
    (hst : s.day.state ≠ .dayOpen) (hst' : s.day.state ≠ .draining) (hclock : t.day.number = s.day.number)
    (hlast : t.day.last = s.day.last) (hnext : t.day.state ≠ .draining) (hqueue : t.queue = s.queue)
    (hdrain : t.drain = s.drain) (hrings : t.rings = s.rings) : DayOk t :=
  hs.step hst hst' hclock hlast hnext hqueue hdrain hrings fun n day hp => absurd hp (hlate n day)

/-- The stages after finalisation. -/
def ClosePos.late : ClosePos → Bool
  | .consensus _ => false
  | .finalisation _ => false
  | _ => true

theorem late_step {pos : ClosePos} (hlate : pos.late = true) (hs : DayOk s) (hst : s.day.state = .closing pos)
    (hnum : t.day.number = s.day.number) (hlast : t.day.last = s.day.last) (hnext : t.day.state ≠ .draining)
    (hqueue : t.queue = s.queue) (hdrain : t.drain = s.drain) (hrings : t.rings = s.rings) : DayOk t := by
  refine hs.lateStep (fun n day => provisionalDay_false ?_ ?_ ?_ ?_) ?_ ?_ hnum hlast hnext hqueue hdrain hrings
  all_goals rw [hst]
  case refine_3 | refine_4 => intro k hk; cases hk; cases hlate
  all_goals exact fun h => nomatch h

theorem overdueScan_kept (s : State) (n : Fin 96) :
    (s.overdueScan n).rings = s.rings ∧ (s.overdueScan n).day.number = s.day.number ∧
      (s.overdueScan n).day.last = s.day.last := by
  unfold State.overdueScan
  split
  · exact ⟨rfl, rfl, rfl⟩
  · rename_i c hc
    dsimp only
    repeat' split
    · have hf := Frame.of_quiet (State.offer_quiet
        (s.setLine n (some { c with missed := satSucc 255 c.missed, state := .overdue }))
        ⟨⟨.line n, none⟩, .overdue, s.day.closingDay, none⟩)
      refine ⟨(rings_of_bareLines (hf.bareLines rfl)).trans (rings_setLine hc rfl), ?_, ?_⟩ <;> simp [hf.day rfl]
    · exact ⟨rings_setLine hc rfl, rfl, rfl⟩
    · exact ⟨rfl, rfl, rfl⟩

theorem transfer_kept (s : State) (k : Fin 16) :
    ((s.transferSet k).day.number = s.day.number ∧ (s.transferSet k).day.last = s.day.last) ∧
      ((s.transferSlot k).day.number = s.day.number ∧ (s.transferSlot k).day.last = s.day.last) := by
  constructor
  · unfold State.transferSet; dsimp only; repeat' split
    all_goals exact ⟨rfl, rfl⟩
  · unfold State.transferSlot; repeat' split
    all_goals exact ⟨rfl, rfl⟩

/-- No step of the pass goes back to draining. -/
theorem stateAfter_ne_draining (pos : ClosePos) : stateAfter pos ≠ .draining := by
  cases pos <;> simp only [stateAfter]
  case summary => exact fun h => nomatch h
  all_goals split <;> exact fun h => nomatch h

theorem advance_ne_draining (u : State) (pos : ClosePos) : (u.advance pos).day.state ≠ .draining :=
  stateAfter_ne_draining pos

theorem accepts_parts {d : DayUnit} (h : d.accepts = true) : d.state = .dayOpen ∧ d.number < Config.lastDay := by
  simpa [DayUnit.accepts] using h

/-- The summary opens the day (R135). -/
theorem DayOk.summarise (hs : DayOk s) (hst : s.day.state = .closing .summary) : DayOk s.summarise := by
  obtain ⟨⟨hlow, hhigh, _⟩, ⟨h1, h2, h3, h4⟩, hr⟩ := dayOk_iff.mp hs
  have hday : s.summarise.day = { s.day with summary := some s.day.summaryOf, state := .dayOpen } := rfl
  refine dayOk_iff.mpr ⟨⟨hlow, hhigh, fun h => absurd rfl h⟩, ⟨h1, h2, h3, ?_⟩, fun n ring h => ?_⟩
  · constructor
    · intro h; have := h4.mp h; rw [hst] at this; cases this
    · intro h; rw [hday] at h; cases h
  · refine (hr n ring h).move rfl (fun h => nomatch h) fun q _ _ hp => ?_
    simp [provisionalDay, hst] at hp

/-- A transfer that waited begins (R133). -/
theorem DayOk.endSave (hs : DayOk s) (o : LastOutcome) : DayOk (s.endSave o) := by
  have hstore : DayOk (s.endStore o) := hs.congr rfl rfl rfl rfl
  unfold State.endSave State.resumeTransfer
  split
  · rename_i hst
    refine hstore.lateStep (fun n day => provisionalDay_false ?_ ?_ ?_ ?_) ?_ ?_ rfl rfl (fun h => nomatch h) rfl rfl rfl
    all_goals rw [hst]
    case refine_3 | refine_4 => exact fun _ h => nomatch h
    all_goals exact fun h => nomatch h
  · exact hstore

/-! ### Lines and the load -/

theorem DayOk.lines (hs : DayOk s) (hday : t.day.clock = s.day.clock) (hqueue : t.queue = s.queue)
    (hdrain : t.drain = s.drain)
    (hrings : ∀ n ring, t.rings.get n = some ring → ringOk s.day n ring) : DayOk t := by
  obtain ⟨hd, hq, _⟩ := dayOk_iff.mp hs
  exact dayOk_iff.mpr ⟨hd.congr hday, hq.congr hday hqueue hdrain, fun n ring h => (hrings n ring h).congr hday⟩

/-- A line that takes a ring within the law. -/
theorem DayOk.putLine (hs : DayOk s) {n : Fin 96} {c : LineCtx} (hc : ringOk s.day n c.ring) :
    DayOk (s.setLine n (some c)) :=
  hs.lines rfl rfl rfl fun m ring h => by
    rw [get_rings_setLine] at h
    split at h
    · rename_i heq; subst heq; cases h; exact hc
    · exact (dayOk_iff.mp hs).2.2 m ring h

theorem DayOk.withdraw (hs : DayOk s) {n : Fin 96} {c : LineCtx} (hc : s.line n = some c) : DayOk (s.withdraw n c) := by
  have hq := State.departAll_quiet (s.setLine n (some { c with waiting := Table.fill 13 none }))
    ((s.setLine n (some { c with waiting := Table.fill 13 none })).entriesOf (.line n))
  have hf := Frame.of_quiet hq
  have hdrop : DayOk (s.dropLineAlerts n c) :=
    hs.congr (by rw [show (s.dropLineAlerts n c).day = s.day from hf.day rfl]) (hf.queue rfl) (hf.drain rfl)
      ((rings_of_quiet hq).trans (rings_setLine hc rfl))
  refine hdrop.lines rfl rfl rfl fun m ring h => ?_
  have hget : (s.withdraw n c).rings.get m = if n = m then none else (s.dropLineAlerts n c).rings.get m := by
    rw [State.get_rings, State.get_rings]
    have : (s.withdraw n c).line m = ((s.dropLineAlerts n c).setLine n none).line m := rfl
    rw [this, State.setLine_line]
    split <;> rfl
  rw [hget] at h
  split at h
  · cases h
  · exact (dayOk_iff.mp hdrop).2.2 m ring h

/-- A load brings lines with empty rings (R87). -/
theorem DayOk.restore (hs : DayOk s) {x : Image} {body : List Byte} (hx : contentOf body = some x) :
    DayOk (s.restore x) := by
  obtain ⟨_, _, _, _, hlines⟩ := contentOf_parts hx
  refine hs.lines rfl rfl rfl fun n ring h => ?_
  rw [State.get_rings] at h
  obtain ⟨c, hc, rfl⟩ := Option.map_eq_some_iff.mp h
  have hn := hlines n
  rw [show x.lines.get n = some c from hc] at hn
  obtain ⟨st, lab, kind, aim, rfl⟩ := parseLineEntry_some hn
  exact ringOk_nil

theorem DayOk.reset (s : State) (ready : BitVec 4) (straps : BitVec 3) (level : Nat) :
    DayOk (s.resetWhole ready straps level) := by
  have hday : (s.resetWhole ready straps level).day = DayUnit.reset := rfl
  refine dayOk_iff.mpr ⟨?_, ?_, fun n ring h => ?_⟩
  · rw [hday]; exact ⟨by decide, by decide, fun h => absurd rfl h⟩
  · unfold QueueDays
    rw [hday]
    exact ⟨(fun _ h => nomatch h), (fun _ h => nomatch h), le_refl _, (fun h => nomatch h), (fun h => nomatch h)⟩
  · rw [State.get_rings] at h
    simp [State.line, State.resetWhole] at h

/-- A record joins the queue with the current day's stamp (R29). -/
theorem DayOk.enqueue (hs : DayOk s) {st : Strip} (hqueue : t.queue = s.queue ++ [⟨st, s.day.number⟩])
    (hday : t.day = s.day) (hdrain : t.drain = s.drain) (hrings : t.rings = s.rings) : DayOk t := by
  obtain ⟨hd, ⟨h1, h2, h3, h4⟩, hr⟩ := dayOk_iff.mp hs
  obtain ⟨k1, k2, k3⟩ := queueDays_take (q := t.queue) (.inr ⟨st, hqueue⟩) h1 h2 h3
  refine dayOk_iff.mpr ⟨hday ▸ hd, ?_, fun n ring h => hday ▸ hr n ring (hrings ▸ h)⟩
  unfold QueueDays
  rw [hday, hdrain]
  exact ⟨k1, k2, k3, h4⟩

theorem consumeOnWire_queue (s : State) (rl : Fin 4) (c : FifoChar) :
    (s.consumeOnWire rl c).queue = s.queue ∨
      ∃ st, (s.consumeOnWire rl c).queue = s.queue ++ [⟨st, s.day.number⟩] := by
  unfold State.consumeOnWire State.completeFrame
  dsimp only
  repeat' split
  all_goals first | exact .inl rfl | exact .inr ⟨_, rfl⟩
end

/-! ### Every row -/

theorem exec_keeps_days (i : Instr) (s t : State) (h : exec i s = .next t) (hs : DayOk s) : DayOk t := by
  have hf := exec_frame h
  by_cases hw : (writes i).contains .queue = false ∧ (writes i).contains .drain = false ∧
      (writes i).contains .lines = false ∧ (writes i).contains .day = false
  · exact hs.congr (by rw [hf.day hw.2.2.2]) (hf.queue hw.1) (hf.drain hw.2.1) (rings_of_bareLines (hf.bareLines hw.2.2.1))
  · cases i with
    | powerOnReset ready straps => rw [← Host.Outcome.next.inj h]; exact .reset _ _ _ _
    | restart p ready straps =>
      rw [← Host.Outcome.next.inj h]
      split
      · exact hs
      · exact hs.answer _ _ _ _
      · exact .reset _ _ _ _
    | consumeCharacter rl =>
      have hday := hf.day rfl
      have hdrain := hf.drain rfl
      have hrings := rings_of_bareLines (hf.bareLines rfl)
      have hqueue : t.queue = s.queue ∨ ∃ st, t.queue = s.queue ++ [⟨st, s.day.number⟩] := by
        rw [← Host.Outcome.next.inj h]
        repeat' split
        · exact .inl rfl
        · exact .inl rfl
        · exact consumeOnWire_queue ..
        · exact .inl rfl
      obtain hqueue | ⟨st, hqueue⟩ := hqueue
      · exact hs.congr (by rw [hday]) hqueue hdrain hrings
      · exact hs.enqueue hqueue hday hdrain hrings
    | evaluationTake =>
      rw [← Host.Outcome.next.inj h]
      split
      · rename_i htakes
        split
        · exact hs
        · rename_i rec rest hq
          split
          · exact hs.takeDraining ‹_› hq
          · refine hs.takeOpen ?_ hq
            unfold State.takes at htakes
            split at htakes <;> simp_all
      · exact hs
    | consensusStep =>
      rw [← Host.Outcome.next.inj h]
      split
      · exact hs.consensus ‹_›
      · exact hs
    | finalisationStep =>
      rw [← Host.Outcome.next.inj h]
      split
      · exact hs.finalise ‹_›
      · exact hs
    | overdueStep =>
      rw [← Host.Outcome.next.inj h]
      split
      · rename_i n hst
        obtain ⟨hrings, hnum, hlast⟩ := overdueScan_kept s n
        have hfr : Frame (writes .overdueStep) s (s.overdueScan n) := overdueScan_frame n
        exact late_step rfl hs hst hnum hlast (advance_ne_draining _ _) (hfr.queue rfl) (hfr.drain rfl) hrings
      · exact hs
    | countdownStep =>
      rw [← Host.Outcome.next.inj h]
      split
      · rename_i k hst
        have hfr : Frame (writes .countdownStep) s (s.countDown k) := countDown_frame k
        have hrings := rings_of_bareLines (hfr.bareLines rfl)
        have hday : (s.countDown k).day = s.day := by
          unfold State.countDown; split <;> rfl
        split
        · exact late_step rfl hs hst (by rw [← hday]; rfl) (by rw [← hday]; rfl) (advance_ne_draining _ _)
            (hfr.queue rfl) (hfr.drain rfl) hrings
        · unfold State.beginTransfer
          split
          · exact late_step rfl hs hst (by rw [← hday]; rfl) (by rw [← hday]; rfl) (fun h => nomatch h) (hfr.queue rfl)
              (hfr.drain rfl) hrings
          · exact late_step rfl hs hst (by rw [← hday]; rfl) (by rw [← hday]; rfl) (advance_ne_draining _ _)
              (hfr.queue rfl) (hfr.drain rfl) hrings
      · exact hs
    | transferStep =>
      rw [← Host.Outcome.next.inj h]
      split
      · rename_i k hst
        obtain ⟨⟨hnum, hlast⟩, _⟩ := transfer_kept s k
        have hfr : Frame (writes .transferStep) s (s.transferSet k) := transferSet_frame k
        exact late_step rfl hs hst hnum hlast (advance_ne_draining _ _) (hfr.queue rfl) (hfr.drain rfl)
          (rings_of_bareLines (hfr.bareLines rfl))
      · rename_i k hst
        obtain ⟨_, hnum, hlast⟩ := transfer_kept s k
        have hfr : Frame (writes .transferStep) s (s.transferSlot k) := transferSlot_frame k
        exact late_step rfl hs hst hnum hlast (advance_ne_draining _ _) (hfr.queue rfl) (hfr.drain rfl)
          (rings_of_bareLines (hfr.bareLines rfl))
      · exact hs
    | summary =>
      rw [← Host.Outcome.next.inj h]
      split
      · exact hs.summarise ‹_›
      · exact hs
    | closeInEdge =>
      rw [← Host.Outcome.next.inj h]
      repeat' split
      · obtain ⟨hst, hnum⟩ := accepts_parts ‹_›
        exact hs.takeRequest hst hnum _
      · exact hs.congr rfl rfl rfl rfl
      · exact hs
    | dayTimerExpiry =>
      rw [← Host.Outcome.next.inj h]
      split
      · rename_i hc
        obtain ⟨hst, hnum⟩ := accepts_parts (Bool.and_eq_true_iff.mp hc).2
        exact hs.takeRequest hst hnum _
      · exact hs
    | dayTimerTick | closeOutPulseEnd =>
      rw [← Host.Outcome.next.inj h]
      repeat' split
      all_goals exact hs.congr rfl rfl rfl rfl
    | loadEnd =>
      obtain rfl | ⟨_, ⟨o, rfl⟩ | ⟨x, hx, rfl⟩⟩ := exec_loadEnd_cases h
      · exact hs
      · exact hs.congr rfl rfl rfl rfl
      · exact (hs.restore hx).congr rfl rfl rfl rfl
    | pageWriteComplete =>
      rw [← Host.Outcome.next.inj h]
      split
      case h_3 =>
        unfold State.pageWritten
        dsimp only
        split
        · exact hs.congr rfl rfl rfl rfl
        · refine DayOk.endSave ?_ _
          exact hs.congr rfl rfl rfl rfl
      all_goals exact hs
    | writeTimeout | noAnswer =>
      rw [← Host.Outcome.next.inj h]
      split
      all_goals first | exact hs.endSave _ | exact hs.congr rfl rfl rfl rfl
    | enrollLine p =>
      rw [← Host.Outcome.next.inj h]
      refine runCommand_keeps DayOk (fun t _ _ _ ht => ht.answer _ _ _ _) hs fun bs a s' st d _ _ _ hact => ?_
      obtain ⟨n, _, _, _, rfl⟩ := enrollLineAct_done hact
      exact (hs.putLine (c := LineCtx.fresh .enrolled a.1 a.2.1 a.2.2) ringOk_nil).congr rfl rfl rfl rfl
    | suspendLine p =>
      rw [← Host.Outcome.next.inj h]
      refine runCommand_keeps DayOk (fun t _ _ _ ht => ht.answer _ _ _ _) hs fun bs a s' st d _ _ _ hact => ?_
      obtain ⟨c, hc, rfl⟩ := suspendLineAct_done hact
      exact hs.congr rfl rfl rfl (rings_setLine hc rfl)
    | resumeLine p =>
      rw [← Host.Outcome.next.inj h]
      refine runCommand_keeps DayOk (fun t _ _ _ ht => ht.answer _ _ _ _) hs fun bs a s' st d _ _ _ hact => ?_
      obtain ⟨c, hc, rfl⟩ := resumeLineAct_done hact
      exact hs.congr rfl rfl rfl (rings_setLine hc rfl)
    | withdrawLine p =>
      rw [← Host.Outcome.next.inj h]
      refine runCommand_keeps DayOk (fun t _ _ _ ht => ht.answer _ _ _ _) hs fun bs a s' st d _ _ _ hact => ?_
      obtain ⟨c, hc, rfl⟩ := withdrawLineAct_done hact
      exact hs.withdraw hc
    | setLineAim p =>
      rw [← Host.Outcome.next.inj h]
      refine runCommand_keeps DayOk (fun t _ _ _ ht => ht.answer _ _ _ _) hs fun bs a s' st d _ _ _ hact => ?_
      obtain ⟨c, hc, _, rfl⟩ := setLineAimAct_done hact
      exact hs.congr rfl rfl rfl (rings_setLine hc rfl)
    | chemEvent p =>
      rw [← Host.Outcome.next.inj h]
      refine runCommand_keeps DayOk (fun t _ _ _ ht => ht.answer _ _ _ _) hs fun bs a s' st d _ _ _ hact => ?_
      obtain ⟨c, hc, rfl⟩ := chemEventAct_done hact
      exact hs.congr rfl rfl rfl (rings_setLine hc rfl)
    | voidPoint p =>
      rw [← Host.Outcome.next.inj h]
      refine runCommand_keeps DayOk (fun t _ _ _ ht => ht.answer _ _ _ _) hs fun bs a s' st d _ _ _ hact => ?_
      obtain ⟨c, pt, hc, hpt, rfl⟩ := voidPointAct_done hact
      have hring := (dayOk_iff.mp hs).2.2 a.1 c.ring (by rw [State.get_rings, hc]; rfl)
      exact hs.putLine (hring.replace (pt' := { pt with state := .void }) (ringAt_some hpt).1 rfl fun h => nomatch h)
    | closeDay p =>
      rw [← Host.Outcome.next.inj h]
      refine runCommand_keeps DayOk (fun t _ _ _ ht => ht.answer _ _ _ _) hs fun bs a s' st d _ _ _ hact => ?_
      obtain ⟨hst, hnum, rfl⟩ := closeDayAct_done hact
      exact hs.takeRequest hst hnum _
    | readDay p | writeDesk p =>
      rw [← Host.Outcome.next.inj h]
      refine runCommand_keeps DayOk (fun t _ _ _ ht => ht.answer _ _ _ _) hs fun bs a s' st d _ _ _ hact => ?_
      rw [← (Answer.done.inj hact).1]
      exact hs.congr rfl rfl rfl rfl
    | _ => exact absurd ⟨rfl, rfl, rfl, rfl⟩ hw

/-- Settles O60: a record joins with the current day, a close request makes it the closing day, and the finalisation step
of a line leaves it no PROVISIONAL point. -/
theorem stepKeepsDays : Obligations.StepKeepsDays :=
  fun _ _ h hs => step_keeps (fun _ _ h => h) exec_keeps_days h hs

end Sys2Proof.Machine
end

-- ==== The alert list ====
section
/-! PROOFS. The law of the alert list (08 R139, R143) through offers, departures and the moving in, and through the rows
that make and clear places for waiting kinds. -/
namespace Sys2Proof.Machine

/-! ### Waiting kinds -/

section
variable {s t : State}

theorem State.get_lineWaits (s : State) (n : Fin 96) : s.lineWaits.get n = (s.line n).map LineCtx.waiting :=
  Table.get_map ..

theorem State.get_lotWaits (s : State) (k : Fin 16) : s.lotWaits.get k = (s.lot k).map Lot.waiting := Table.get_map ..

/-- The waiting kinds are those of the lines and of the slots. -/
theorem waitingAt_congr (hlines : t.lineWaits = s.lineWaits) (hlots : t.lotWaits = s.lotWaits) (k : Key) :
    t.waitingAt k = s.waitingAt k := by
  have hcomp : ∀ u : State, u.waitingAt k = match k.subject, k.value with
      | .line n, v => (u.lineWaits.get n).bind fun w => w.get (waitIndex v)
      | .lot l, some v => (u.lotWaits.get l).bind fun w => w.get v
      | .lot _, none => none := fun u => by
    obtain ⟨x, v⟩ := k
    cases x <;> cases v <;> simp only [State.waitingAt, State.get_lineWaits, State.get_lotWaits, Option.bind_map] <;> rfl
  rw [hcomp t, hcomp s, hlines, hlots]

/-- Subjects are named by the lines and slots that have places for waiting kinds. -/
theorem named_congr (hlines : t.lineWaits = s.lineWaits) (hlots : t.lotWaits = s.lotWaits) (x : Subject) :
    t.named x = s.named x := by
  have hcomp : ∀ u : State, u.named x = match x with
      | .line n => (u.lineWaits.get n).isSome
      | .lot l => (u.lotWaits.get l).isSome := fun u => by
    cases x <;> simp [State.named, State.get_lineWaits, State.get_lotWaits]
  rw [hcomp t, hcomp s, hlines, hlots]

theorem named_of_waiting {k : Key} (h : s.waitingAt k ≠ none) : s.named k.subject = true := by
  obtain ⟨x, v⟩ := k
  cases x with
  | line n =>
    cases hn : s.line n with
    | none => simp [State.waitingAt, hn] at h
    | some c => simp [State.named, hn]
  | lot l =>
    cases v with
    | none => exact absurd rfl h
    | some v =>
      cases hl : s.lot l with
      | none => simp [State.waitingAt, hl] at h
      | some c => simp [State.named, hl]

theorem named_quiet (h : t.quiet = s.quiet) (x : Subject) : t.named x = s.named x := by
  obtain ⟨_, _, _, _, _, _, _, _, _, _, _, _, _, _, _, hlines, hlots⟩ := State.quiet_fields h
  cases x with
  | line n => simpa [State.named] using congrArg Option.isSome (hlines n)
  | lot k => simpa [State.named] using congrArg Option.isSome (hlots k)

theorem setWaiting_named (k : Key) (w : Option AlertKind) (x : Subject) : (s.setWaiting k w).named x = s.named x :=
  named_quiet (State.setWaiting_quiet ..) x

theorem waitIndex_inj {v w : Option (Fin 12)} (h : waitIndex v = waitIndex w) : v = w := by
  cases v <;> cases w <;> simp only [waitIndex, Fin.ext_iff, Fin.val_castSucc] at h <;> grind

theorem setWaiting_line {n : Fin 96} {c : LineCtx} (hc : s.line n = some c) (v : Option (Fin 12)) (w : Option AlertKind) :
    s.setWaiting ⟨.line n, v⟩ w = s.setLine n (some { c with waiting := c.waiting.set (waitIndex v) w }) := by
  simp [State.setWaiting, hc]

theorem setWaiting_lot {k : Fin 16} {l : Lot} (hl : s.lot k = some l) (v : Fin 12) (w : Option AlertKind) :
    s.setWaiting ⟨.lot k, some v⟩ w = s.setLot k (some { l with waiting := l.waiting.set v w }) := by
  simp [State.setWaiting, hl]

/-- A key without a place for a waiting kind: nothing waits at it, and nothing is written. -/
theorem setWaiting_noPlace {k : Key} (h : s.named k.subject = false ∨ ∃ j, k = ⟨.lot j, none⟩) (w : Option AlertKind) :
    s.setWaiting k w = s ∧ s.waitingAt k = none := by
  obtain ⟨x, v⟩ := k
  obtain h | ⟨j, hj⟩ := h
  · cases x with
    | line n =>
      have hn : s.line n = none := by simpa [State.named] using h
      simp [State.setWaiting, State.waitingAt, hn]
    | lot k =>
      have hk : s.lot k = none := by simpa [State.named] using h
      cases v <;> simp [State.setWaiting, State.waitingAt, hk]
  · cases hj; exact ⟨rfl, rfl⟩

/-- Every key has a place for a waiting kind or none. -/
theorem place_cases (s : State) (k : Key) :
    (s.named k.subject = false ∨ ∃ j, k = ⟨.lot j, none⟩) ∨ (∃ n v c, k = ⟨.line n, v⟩ ∧ s.line n = some c) ∨
      ∃ j v l, k = ⟨.lot j, some v⟩ ∧ s.lot j = some l := by
  obtain ⟨x, v⟩ := k
  cases x with
  | line n =>
    cases hn : s.line n with
    | none => exact .inl (.inl (by simp [State.named, hn]))
    | some c => exact .inr (.inl ⟨n, v, c, rfl, hn⟩)
  | lot j =>
    cases v with
    | none => exact .inl (.inr ⟨j, rfl⟩)
    | some v =>
      cases hl : s.lot j with
      | none => exact .inl (.inl (by simp [State.named, hl]))
      | some l => exact .inr (.inr ⟨j, v, l, rfl, hl⟩)

/-- Writing a waiting kind leaves those of the other keys. -/
theorem waitingAt_setWaiting_other {k j : Key} (h : j ≠ k) (w : Option AlertKind) :
    (s.setWaiting k w).waitingAt j = s.waitingAt j := by
  obtain hno | ⟨n, v, c, rfl, hc⟩ | ⟨i, v, l, rfl, hl⟩ := place_cases s k
  · rw [(setWaiting_noPlace hno w).1]
  · rw [setWaiting_line hc]
    obtain ⟨x, u⟩ := j
    cases x with
    | lot m => cases u <;> rfl
    | line m =>
      simp only [State.waitingAt, State.setLine_line]
      split
      · rename_i heq
        subst heq
        have hne : waitIndex v ≠ waitIndex u := fun hi => h (by rw [waitIndex_inj hi])
        simp [hc, Table.get_set_other _ _ hne]
      · rfl
  · rw [setWaiting_lot hl]
    obtain ⟨x, u⟩ := j
    cases x with
    | line m => rfl
    | lot m =>
      cases u with
      | none => rfl
      | some u =>
        simp only [State.waitingAt, State.setLot_lot]
        split
        · rename_i heq
          subst heq
          have hne : v ≠ u := fun hi => h (by rw [hi])
          simp [hl, Table.get_set_other _ _ hne]
        · rfl

theorem waitingAt_setWaiting_cleared (k : Key) : (s.setWaiting k none).waitingAt k = none := by
  obtain hno | ⟨n, v, c, rfl, hc⟩ | ⟨i, v, l, rfl, hl⟩ := place_cases s k
  · obtain ⟨hsame, hnone⟩ := setWaiting_noPlace hno none
    rw [hsame, hnone]
  · rw [setWaiting_line hc]; simp [State.waitingAt]
  · rw [setWaiting_lot hl]; simp [State.waitingAt]

/-- What still waits after a key is cleared waited before, at another key. -/
theorem waiting_of_cleared {k j : Key} (h : ((s.setWaiting k none).waitingAt j).isSome = true) :
    j ≠ k ∧ (s.waitingAt j).isSome = true := by
  have hne : j ≠ k := fun heq => by subst heq; rw [waitingAt_setWaiting_cleared] at h; cases h
  exact ⟨hne, by rwa [waitingAt_setWaiting_other hne] at h⟩

theorem entryAt_eq_none {k : Key} : s.entryAt k = none ↔ ∀ e ∈ s.alerts, e.key ≠ k := by
  simp [State.entryAt, List.find?_eq_none]

theorem entryAt_some {k : Key} {e : AlertEntry} (h : s.entryAt k = some e) : e ∈ s.alerts ∧ e.key = k :=
  ⟨List.mem_of_find?_eq_some h, by simpa using List.find?_some h⟩
end

/-! ### Free numbers (R140) -/

section
variable {s : State}

theorem freeNumber_some {k : Fin 32} (h : s.freeNumber = some k) : k ∉ s.alerts.map AlertEntry.number := by
  have hk := List.find?_some h
  simpa using hk

/-- A list with a free number is not full. -/
theorem length_lt_of_free (hnum : (s.alerts.map AlertEntry.number).Nodup) {k : Fin 32} (h : s.freeNumber = some k) :
    s.alerts.length < Config.listDepth := by
  have hnodup : (k :: s.alerts.map AlertEntry.number).Nodup := List.nodup_cons.mpr ⟨freeNumber_some h, hnum⟩
  have hle := hnodup.length_le_card
  rw [List.length_cons, List.length_map, Fintype.card_fin] at hle
  exact hle

/-- A list without a free number is full. -/
theorem length_of_notFree (h : s.freeNumber = none) : Config.listDepth ≤ s.alerts.length := by
  have hsub : List.finRange 32 ⊆ s.alerts.map AlertEntry.number := fun k hk => by
    have := List.find?_eq_none.mp h k hk
    simpa using this
  have hle := ((List.nodup_finRange 32).subperm hsub).length_le
  rwa [List.length_finRange, List.length_map] at hle
end

/-! ### The list's law, and the list with a gap -/

/-- The law of the alert list, but that entries with a number in `ns` may have lost their last pending port. -/
def AlertsLaw (ns : List (Fin 32)) (s : State) : Prop :=
  s.alerts.length ≤ Config.listDepth ∧ (s.alerts.map AlertEntry.number).Nodup ∧ (s.alerts.map AlertEntry.key).Nodup ∧
  (∀ e ∈ s.alerts, (e.ports.empty = false ∨ e.number ∈ ns) ∧ s.named e.key.subject = true) ∧
  ∀ k, (s.waitingAt k).isSome = true → s.entryAt k = none ∧ s.alerts.length = Config.listDepth

theorem alertsLaw_nil {s : State} : AlertsLaw [] s ↔ AlertsOk s := by
  simp [AlertsLaw, AlertsOk]

/-- The law with one place of the list open. -/
def GapLaw (ns : List (Fin 32)) (s : State) : Prop :=
  s.alerts.length ≤ Config.listDepth ∧ (s.alerts.map AlertEntry.number).Nodup ∧ (s.alerts.map AlertEntry.key).Nodup ∧
  (∀ e ∈ s.alerts, (e.ports.empty = false ∨ e.number ∈ ns) ∧ s.named e.key.subject = true) ∧
  ∀ k, (s.waitingAt k).isSome = true → s.entryAt k = none ∧ Config.listDepth ≤ s.alerts.length + 1

section
variable {s t : State} {ns : List (Fin 32)}

theorem AlertsLaw.congr (hs : AlertsLaw ns s) (halerts : t.alerts = s.alerts) (hlines : t.lineWaits = s.lineWaits)
    (hlots : t.lotWaits = s.lotWaits) : AlertsLaw ns t := by
  unfold AlertsLaw State.entryAt
  simp only [halerts, waitingAt_congr hlines hlots, named_congr hlines hlots]
  exact hs

theorem AlertsOk.congr (hs : AlertsOk s) (halerts : t.alerts = s.alerts) (hlines : t.lineWaits = s.lineWaits)
    (hlots : t.lotWaits = s.lotWaits) : AlertsOk t :=
  alertsLaw_nil.mp ((alertsLaw_nil.mpr hs).congr halerts hlines hlots)

theorem GapLaw.clear (hs : GapLaw ns s) (k : Key) : GapLaw ns (s.setWaiting k none) := by
  obtain ⟨hlen, hnum, hkey, hent, hwait⟩ := hs
  unfold GapLaw State.entryAt
  simp only [State.setWaiting_alerts, setWaiting_named]
  exact ⟨hlen, hnum, hkey, hent, fun j hj => hwait j (waiting_of_cleared hj).2⟩

/-- A new entry for a key that has none, with a subject and pending ports (R140). -/
theorem createEntry_alerts {k : Fin 32} (h : s.freeNumber = some k) (key : Key) (kind : AlertKind) (day : Nat)
    (amount : Option Int) (ports : PortSet) :
    (s.createEntry key kind day amount ports).alerts =
      s.alerts ++ [⟨k, s.serials.get k + 1, key, kind, day, amount, 1, ports⟩] := by
  unfold State.createEntry; rw [h]

theorem createEntry_waits (key : Key) (kind : AlertKind) (day : Nat) (amount : Option Int) (ports : PortSet) :
    (s.createEntry key kind day amount ports).lineWaits = s.lineWaits ∧
      (s.createEntry key kind day amount ports).lotWaits = s.lotWaits := by
  unfold State.createEntry; split <;> exact ⟨rfl, rfl⟩

/-- An entry that fills the gap: every key that waits is another, and waits behind a full list. -/
theorem GapLaw.create (hs : GapLaw ns s) {key : Key} (hnone : s.entryAt key = none) (hwait : s.waitingAt key = none)
    (hnamed : s.named key.subject = true) {ports : PortSet} (hports : ports.empty = false) (kind : AlertKind) (day : Nat)
    (amount : Option Int) : AlertsLaw ns (s.createEntry key kind day amount ports) := by
  obtain ⟨hlen, hnum, hkey, hent, hw⟩ := hs
  obtain ⟨hlines, hlots⟩ := createEntry_waits (s := s) key kind day amount ports
  cases hf : s.freeNumber with
  | none =>
    have hsame : s.createEntry key kind day amount ports = s := by unfold State.createEntry; rw [hf]
    rw [hsame]
    exact ⟨hlen, hnum, hkey, hent, fun j hj => ⟨(hw j hj).1, Nat.le_antisymm hlen (length_of_notFree hf)⟩⟩
  | some k =>
    have hlt := length_lt_of_free hnum hf
    unfold AlertsLaw State.entryAt
    simp only [createEntry_alerts hf, waitingAt_congr hlines hlots, named_congr hlines hlots, List.length_append,
      List.length_singleton, List.map_append, List.map_singleton]
    refine ⟨hlt, hnum.append (List.nodup_singleton _) ?_, hkey.append (List.nodup_singleton _) ?_, ?_, ?_⟩
    · simpa using freeNumber_some hf
    · simpa using entryAt_eq_none.mp hnone
    · intro e he
      rcases List.mem_append.mp he with he | he
      · exact hent e he
      · rw [List.mem_singleton.mp he]; exact ⟨.inl hports, hnamed⟩
    · intro j hj
      obtain ⟨hnone', hfull⟩ := hw j hj
      have hne : key ≠ j := fun heq => by subst heq; rw [hwait] at hj; cases hj
      refine ⟨?_, by omega⟩
      rw [List.find?_append, show s.alerts.find? (fun e => e.key == j) = none from hnone']
      simp [hne]

/-- The moving in closes the gap, or nothing waits any more (R144). -/
theorem moveIn_law (ks : List Key) : ∀ {s : State}, GapLaw ns s →
    (∀ k, (s.waitingAt k).isSome = true → k ∈ ks) → AlertsLaw ns (moveIn ks s) := by
  induction ks with
  | nil =>
    rintro s ⟨hlen, hnum, hkey, hent, _⟩ hall
    exact ⟨hlen, hnum, hkey, hent, fun k hk => nomatch hall k hk⟩
  | cons k ks ih =>
    intro s hs hall
    unfold moveIn
    split
    · rename_i hnone
      refine ih hs fun j hj => (List.mem_cons.mp (hall j hj)).resolve_left fun heq => ?_
      rw [heq, hnone] at hj; cases hj
    · rename_i kind hk
      have hwaits : s.waitingAt k ≠ none := by rw [hk]; exact fun h => nomatch h
      split
      · refine ih (hs.clear k) fun j hj => ?_
        obtain ⟨hne, hj⟩ := waiting_of_cleared hj
        exact (List.mem_cons.mp (hall j hj)).resolve_left hne
      · rename_i hports
        refine (hs.clear k).create ?_ (waitingAt_setWaiting_cleared k) ?_ (Bool.eq_false_of_not_eq_true hports) _ _ _
        · unfold State.entryAt
          rw [State.setWaiting_alerts]
          obtain ⟨_, _, _, _, hw⟩ := hs
          exact (hw k (by rw [hk]; rfl)).1
        · rw [setWaiting_named]; exact named_of_waiting hwaits

/-- Removing one number leaves at least all entries but one. -/
theorem filter_number_length {l : List AlertEntry} (h : (l.map AlertEntry.number).Nodup) (k : Fin 32) :
    l.length ≤ (l.filter fun e => e.number != k).length + 1 := by
  have hsplit := List.length_eq_length_filter_add (l := l) fun e => e.number != k
  have hone : (l.filter fun e => !(e.number != k)).length ≤ 1 := by
    have hsub : ((l.filter fun e => !(e.number != k)).map AlertEntry.number).Nodup :=
      h.sublist (List.filter_sublist.map _)
    have hall : ∀ x ∈ (l.filter fun e => !(e.number != k)).map AlertEntry.number, x = k := by
      intro x hx
      obtain ⟨e, he, rfl⟩ := List.mem_map.mp hx
      simpa using (List.mem_filter.mp he).2
    have hrep := List.eq_replicate_of_mem hall
    rw [hrep] at hsub
    have hle := List.nodup_replicate.mp hsub
    simpa using hle
  omega

theorem AlertsLaw.depart {number : Fin 32} (hs : AlertsLaw (number :: ns) s) : AlertsLaw ns (s.depart number) := by
  obtain ⟨hlen, hnum, hkey, hent, hwait⟩ := hs
  have hsub : (s.alerts.filter fun e => e.number != number).Sublist s.alerts := List.filter_sublist
  refine moveIn_law scanKeys ⟨hsub.length_le.trans hlen, hnum.sublist (hsub.map _), hkey.sublist (hsub.map _), ?_, ?_⟩
    fun k hk => mem_scanKeys (s := { s with alerts := s.alerts.filter fun e => e.number != number })
      (Option.isSome_iff_ne_none.mp hk)
  · intro e he
    obtain ⟨hmem, hne⟩ := List.mem_filter.mp he
    obtain ⟨hports, hnamed⟩ := hent e hmem
    refine ⟨hports.imp_right fun h => ?_, hnamed⟩
    exact (List.mem_cons.mp h).resolve_left (by simpa using hne)
  · intro k hk
    obtain ⟨hnone, hfull⟩ := hwait k hk
    refine ⟨entryAt_eq_none.mpr fun e he => entryAt_eq_none.mp hnone e (hsub.subset he), ?_⟩
    have := filter_number_length hnum number
    dsimp only
    omega

theorem AlertsLaw.weaken (hs : AlertsLaw [] s) : AlertsLaw ns s := by
  obtain ⟨hlen, hnum, hkey, hent, hwait⟩ := hs
  exact ⟨hlen, hnum, hkey, fun e he => (hent e he).imp_left fun h => .inl (h.resolve_right List.not_mem_nil), hwait⟩

theorem AlertsLaw.departAll : ∀ (ks : List (Fin 32)) {s : State}, AlertsLaw ks s → AlertsOk (s.departAll ks)
  | [], _, hs => alertsLaw_nil.mp hs
  | _ :: ks, _, hs => AlertsLaw.departAll ks hs.depart

/-! ### Offers (R142) -/

theorem AlertsOk.setWaiting_none (hs : AlertsOk s) (k : Key) : AlertsOk (s.setWaiting k none) := by
  obtain ⟨hlen, hnum, hkey, hent, hwait⟩ := hs
  unfold AlertsOk State.entryAt
  simp only [State.setWaiting_alerts, setWaiting_named]
  exact ⟨hlen, hnum, hkey, hent, fun j hj => hwait j (waiting_of_cleared hj).2⟩

/-- An entry that moves to the back with new contents leaves the list of its numbers, or of its keys, but for the
order. -/
theorem moveToBack_perm {α : Type} {l : List AlertEntry} {e e' : AlertEntry} (f : AlertEntry → α)
    (hnum : (l.map AlertEntry.number).Nodup) (he : e ∈ l) (hf : f e' = f e) :
    (((l.filter fun x => x.number != e.number) ++ [e']).map f).Perm (l.map f) := by
  obtain ⟨before, after, rfl⟩ := List.append_of_mem he
  have hsplit : ((before ++ e :: after).filter fun x => x.number != e.number) = before ++ after := by
    rw [List.map_append, List.map_cons, List.nodup_append] at hnum
    obtain ⟨_, hafter, hdisj⟩ := hnum
    have hout := (List.nodup_cons.mp hafter).1
    rw [List.filter_append, List.filter_cons_of_neg (by simp), List.filter_eq_self.mpr, List.filter_eq_self.mpr]
    · intro x hx
      have : e.number ≠ x.number := fun heq => hout (heq ▸ List.mem_map_of_mem hx)
      simpa using this.symm
    · intro x hx
      have := hdisj x.number (List.mem_map_of_mem hx) e.number (List.mem_cons_self ..)
      simpa using this
  rw [hsplit]
  simp only [List.map_append, List.map_cons, List.map_nil, hf, List.append_assoc]
  exact (List.perm_append_comm (l₁ := after.map f) (l₂ := [f e])).append_left _

theorem AlertsOk.merge (hs : AlertsOk s) {e : AlertEntry} (he : e ∈ s.alerts) {o : Offer}
    (hports : (s.subscribers o.kind).empty = false) : AlertsOk (s.merge e o) := by
  obtain ⟨hlen, hnum, hkey, hent, hwait⟩ := hs
  have hnumbers := moveToBack_perm (e' := { e with
    serial := s.serials.get e.number + 1, kind := o.kind, day := o.day, amount := o.amount
    repeats := satSucc 255 e.repeats, ports := s.subscribers o.kind }) AlertEntry.number hnum he rfl
  have hkeys := moveToBack_perm (e' := { e with
    serial := s.serials.get e.number + 1, kind := o.kind, day := o.day, amount := o.amount
    repeats := satSucc 255 e.repeats, ports := s.subscribers o.kind }) AlertEntry.key hnum he rfl
  have hlength : (s.merge e o).alerts.length = s.alerts.length := by
    have := hnumbers.length_eq
    rwa [List.length_map, List.length_map] at this
  refine ⟨hlength ▸ hlen, hnumbers.nodup_iff.mpr hnum, hkeys.nodup_iff.mpr hkey, fun x hx => ?_, fun k hk => ?_⟩
  · rcases List.mem_append.mp hx with hx | hx
    · exact hent x (List.mem_of_mem_filter hx)
    · rw [List.mem_singleton.mp hx]; exact ⟨hports, (hent e he).2⟩
  · obtain ⟨hnone, hfull⟩ := hwait k hk
    refine ⟨entryAt_eq_none.mpr fun x hx hxk => ?_, hlength ▸ hfull⟩
    have hmem : k ∈ s.alerts.map AlertEntry.key := hkeys.mem_iff.mp (hxk ▸ List.mem_map_of_mem hx)
    obtain ⟨y, hy, hyk⟩ := List.mem_map.mp hmem
    exact entryAt_eq_none.mp hnone y hy hyk

/-- An offer for a subject that is named keeps the law, in each case of R142. -/
theorem AlertsOk.offer (hs : AlertsOk s) {o : Offer} (hnamed : s.named o.key.subject = true) : AlertsOk (s.offer o) := by
  unfold State.offer
  split
  · split
    · exact alertsLaw_nil.mp (AlertsLaw.depart (alertsLaw_nil.mpr (hs.setWaiting_none _)).weaken)
    · exact hs.setWaiting_none _
  · rename_i hports
    have hports := Bool.eq_false_of_not_eq_true hports
    split
    · exact hs.merge (entryAt_some ‹_›).1 hports
    · rename_i hnone
      obtain ⟨hlen, hnum, hkey, hent, hwait⟩ := hs
      split
      · rename_i hlt
        have hnowait : ∀ k, s.waitingAt k = none := fun k => by
          by_contra h
          exact absurd (hwait k (Option.isSome_iff_ne_none.mpr h)).2 (Nat.ne_of_lt hlt)
        refine alertsLaw_nil.mp (GapLaw.create ⟨hlen, hnum, hkey, fun e he => ?_, fun k hk => ?_⟩ hnone (hnowait _) hnamed
          hports _ _ _)
        · exact (hent e he).imp_left .inl
        · rw [hnowait] at hk; cases hk
      · rename_i hfull
        have hfull : s.alerts.length = Config.listDepth := Nat.le_antisymm hlen (Nat.not_lt.mp hfull)
        unfold AlertsOk State.entryAt
        simp only [State.setWaiting_alerts, setWaiting_named]
        refine ⟨hlen, hnum, hkey, hent, fun j hj => ⟨?_, hfull⟩⟩
        by_cases hne : j = o.key
        · rw [hne]; exact hnone
        · rw [waitingAt_setWaiting_other hne] at hj
          exact (hwait j hj).1

theorem AlertsOk.offerAll : ∀ (os : List Offer) {s : State}, AlertsOk s →
    (∀ o ∈ os, s.named o.key.subject = true) → AlertsOk (s.offerAll os)
  | [], _, hs, _ => hs
  | o :: os, s, hs, hnamed =>
    AlertsOk.offerAll os (hs.offer (hnamed o (List.mem_cons_self ..))) fun o' ho' => by
      rw [named_quiet (State.offer_quiet s o)]
      exact hnamed o' (List.mem_cons_of_mem _ ho')
end

/-! ### Lines and slots that come and go -/

section
variable {s t : State}

theorem lineWaits_setLine {n : Fin 96} {c c' : LineCtx} (hc : s.line n = some c) (h : c'.waiting = c.waiting) :
    (s.setLine n (some c')).lineWaits = s.lineWaits := (Frame.setLine hc h).lineWaits rfl

theorem lotWaits_setLot {k : Fin 16} {l l' : Lot} (hl : s.lot k = some l) (h : l'.waiting = l.waiting) :
    (s.setLot k (some l')).lotWaits = s.lotWaits := (Frame.setLot hl h).lotWaits rfl

/-- The law after changes of subjects that no entry names: nothing waits that did not wait before. -/
theorem AlertsOk.places (hs : AlertsOk s) (halerts : t.alerts = s.alerts)
    (hnamed : ∀ e ∈ s.alerts, t.named e.key.subject = true)
    (hwait : ∀ k, (t.waitingAt k).isSome = true → (s.waitingAt k).isSome = true) : AlertsOk t := by
  obtain ⟨hlen, hnum, hkey, hent, hw⟩ := hs
  unfold AlertsOk State.entryAt
  rw [halerts]
  exact ⟨hlen, hnum, hkey, fun e he => ⟨(hent e he).1, hnamed e he⟩, fun k hk => hw k (hwait k hk)⟩

/-- Nothing waits at a subject. -/
def State.still (s : State) (x : Subject) : Prop := ∀ k, k.subject = x → s.waitingAt k = none

theorem waitingAt_setLine_other {n : Fin 96} {c : Option LineCtx} {k : Key} (h : k.subject ≠ .line n) :
    (s.setLine n c).waitingAt k = s.waitingAt k := by
  obtain ⟨x, v⟩ := k
  cases x with
  | line m =>
    have hne : n ≠ m := fun e => h (by rw [e])
    simp [State.waitingAt, State.setLine_line, hne]
  | lot m => cases v <;> rfl

theorem waitingAt_setLot_other {j : Fin 16} {l : Option Lot} {k : Key} (h : k.subject ≠ .lot j) :
    (s.setLot j l).waitingAt k = s.waitingAt k := by
  obtain ⟨x, v⟩ := k
  cases x with
  | line m => rfl
  | lot m =>
    have hne : j ≠ m := fun e => h (by rw [e])
    cases v <;> simp [State.waitingAt, State.setLot_lot, hne]

/-- A line in whose context nothing waits. -/
theorem still_setLine {n : Fin 96} {c : Option LineCtx} (h : ∀ c' ∈ c, c'.waiting = Table.fill 13 none) :
    (s.setLine n c).still (.line n) := by
  rintro ⟨x, v⟩ rfl
  cases c with
  | none => simp [State.waitingAt]
  | some c => simp [State.waitingAt, h c rfl]

theorem still_setLot {k : Fin 16} {l : Option Lot} (h : ∀ l' ∈ l, l'.waiting = Table.fill 12 none) :
    (s.setLot k l).still (.lot k) := by
  rintro ⟨x, v⟩ rfl
  cases l with
  | none => cases v <;> simp [State.waitingAt]
  | some l => cases v <;> simp [State.waitingAt, h l rfl]

/-- A line or a slot set to a context in which nothing waits, while no entry names it unless it stays. -/
theorem AlertsOk.setLine (hs : AlertsOk s) {n : Fin 96} {c : Option LineCtx}
    (hwait : ∀ c' ∈ c, c'.waiting = Table.fill 13 none)
    (hent : c = none → ∀ e ∈ s.alerts, e.key.subject ≠ .line n) : AlertsOk (s.setLine n c) := by
  refine hs.places rfl (fun e he => ?_) fun k hk => ?_
  · have hnamed := (hs.2.2.2.1 e he).2
    cases hx : e.key.subject with
    | lot m => rw [hx] at hnamed; exact hnamed
    | line m =>
      rw [hx] at hnamed
      simp only [State.named, State.setLine_line]
      split
      · rename_i heq
        cases hc : c with
        | some c' => rfl
        | none => exact absurd (by rw [hx, heq]) (hent hc e he)
      · exact hnamed
  · by_cases hx : k.subject = .line n
    · rw [still_setLine hwait k hx] at hk; cases hk
    · rwa [waitingAt_setLine_other hx] at hk

theorem AlertsOk.setLot (hs : AlertsOk s) {j : Fin 16} {l : Option Lot}
    (hwait : ∀ l' ∈ l, l'.waiting = Table.fill 12 none)
    (hent : l = none → ∀ e ∈ s.alerts, e.key.subject ≠ .lot j) : AlertsOk (s.setLot j l) := by
  refine hs.places rfl (fun e he => ?_) fun k hk => ?_
  · have hnamed := (hs.2.2.2.1 e he).2
    cases hx : e.key.subject with
    | line m => rw [hx] at hnamed; exact hnamed
    | lot m =>
      rw [hx] at hnamed
      simp only [State.named, State.setLot_lot]
      split
      · rename_i heq
        cases hl : l with
        | some l' => rfl
        | none => exact absurd (by rw [hx, heq]) (hent hl e he)
      · exact hnamed
  · by_cases hx : k.subject = .lot j
    · rw [still_setLot hwait k hx] at hk; cases hk
    · rwa [waitingAt_setLot_other hx] at hk

/-- Of a subject at which nothing waits, no entry comes in by a moving in. -/
theorem moveIn_still {x : Subject} {ns : List (Fin 32)} (ks : List Key) : ∀ {s : State}, s.still x →
    (∀ e ∈ s.alerts, e.key.subject = x → e.number ∈ ns) →
    (moveIn ks s).still x ∧ ∀ e ∈ (moveIn ks s).alerts, e.key.subject = x → e.number ∈ ns := by
  induction ks with
  | nil => exact fun hstill hent => ⟨hstill, hent⟩
  | cons k ks ih =>
    intro s hstill hent
    unfold moveIn
    split
    · exact ih hstill hent
    · rename_i kind hk
      have hx : k.subject ≠ x := fun heq => by rw [hstill k heq] at hk; cases hk
      have hstill' : (s.setWaiting k none).still x := fun j hj => by
        have hne : j ≠ k := fun heq => hx (heq ▸ hj)
        rw [waitingAt_setWaiting_other hne]; exact hstill j hj
      have hent' : ∀ e ∈ (s.setWaiting k none).alerts, e.key.subject = x → e.number ∈ ns := by
        rw [State.setWaiting_alerts]; exact hent
      split
      · exact ih hstill' hent'
      · obtain ⟨hlines, hlots⟩ := createEntry_waits (s := s.setWaiting k none) k kind s.day.number none (s.subscribers kind)
        refine ⟨fun j hj => (waitingAt_congr hlines hlots j).trans (hstill' j hj), fun e he hex => ?_⟩
        cases hf : (s.setWaiting k none).freeNumber with
        | none =>
          have hsame : ∀ a b c, (s.setWaiting k none).createEntry k kind a b c = s.setWaiting k none := fun _ _ _ => by
            unfold State.createEntry; rw [hf]
          rw [hsame] at he
          exact hent' e he hex
        | some i =>
          rw [createEntry_alerts hf] at he
          rcases List.mem_append.mp he with he | he
          · exact hent' e he hex
          · rw [List.mem_singleton.mp he] at hex; exact absurd hex hx

/-- When all entries of a subject at which nothing waits depart, none is left (R145). -/
theorem departAll_clears {x : Subject} : ∀ (ks : List (Fin 32)) {s : State}, s.still x →
    (∀ e ∈ s.alerts, e.key.subject = x → e.number ∈ ks) →
    ∀ e ∈ (s.departAll ks).alerts, e.key.subject ≠ x
  | [], _, _, hent => fun e he hex => nomatch hent e he hex
  | k :: ks, s, hstill, hent => by
    have hgap : ∀ e ∈ s.alerts.filter (fun e => e.number != k), e.key.subject = x → e.number ∈ ks := fun e he hex => by
      obtain ⟨he, hne⟩ := List.mem_filter.mp he
      exact (List.mem_cons.mp (hent e he hex)).resolve_left (by simpa using hne)
    obtain ⟨hstill', hent'⟩ := moveIn_still scanKeys
      (s := { s with alerts := s.alerts.filter fun e => e.number != k }) hstill hgap
    exact departAll_clears ks hstill' hent'

theorem AlertsOk.departAll (hs : AlertsOk s) (ks : List (Fin 32)) : AlertsOk (s.departAll ks) :=
  AlertsLaw.departAll ks (alertsLaw_nil.mpr hs).weaken

/-- A withdrawn line's alerts are gone (R68). -/
theorem dropLineAlerts_clears (s : State) (n : Fin 96) (c : LineCtx) :
    ∀ e ∈ (s.dropLineAlerts n c).alerts, e.key.subject ≠ .line n :=
  departAll_clears _ (still_setLine fun c' h => by cases h; rfl) fun e he hex =>
    List.mem_map_of_mem (List.mem_filter.mpr ⟨he, by simpa using hex⟩)

/-- A cleared slot's alerts are gone (R108). -/
theorem dropLotAlerts_clears (s : State) (k : Fin 16) (l : Lot) :
    ∀ e ∈ (s.dropLotAlerts k l).alerts, e.key.subject ≠ .lot k :=
  departAll_clears _ (still_setLot fun l' h => by cases h; rfl) fun e he hex =>
    List.mem_map_of_mem (List.mem_filter.mpr ⟨he, by simpa using hex⟩)

theorem AlertsOk.withdraw (hs : AlertsOk s) {n : Fin 96} (c : LineCtx) : AlertsOk (s.withdraw n c) := by
  have hfill : ∀ c' ∈ some { c with waiting := Table.fill 13 none }, c'.waiting = Table.fill 13 none := fun c' h => by
    cases h; rfl
  have hset : AlertsOk (s.setLine n (some { c with waiting := Table.fill 13 none })) :=
    hs.setLine hfill fun h => nomatch h
  have hdrop : AlertsOk (s.dropLineAlerts n c) := hset.departAll _
  exact (hdrop.setLine (c := none) (fun _ h => nomatch h) fun _ => dropLineAlerts_clears s n c).congr rfl rfl rfl

theorem AlertsOk.clearLot (hs : AlertsOk s) {k : Fin 16} (l : Lot) : AlertsOk ((s.dropLotAlerts k l).setLot k none) := by
  have hfill : ∀ l' ∈ some { l with waiting := Table.fill 12 none }, l'.waiting = Table.fill 12 none := fun l' h => by
    cases h; rfl
  have hset : AlertsOk (s.setLot k (some { l with waiting := Table.fill 12 none })) := hs.setLot hfill fun h => nomatch h
  have hdrop : AlertsOk (s.dropLotAlerts k l) := hset.departAll _
  exact hdrop.setLot (l := none) (fun _ h => nomatch h) fun _ => dropLotAlerts_clears s k l

/-! ### Claims -/

/-- Entries whose pending sets alone change. -/
theorem AlertsLaw.ports (hs : AlertsOk s) {f : AlertEntry → AlertEntry} {ns : List (Fin 32)}
    (halerts : t.alerts = s.alerts.map f) (hlines : t.lineWaits = s.lineWaits) (hlots : t.lotWaits = s.lotWaits)
    (hnumber : ∀ e, (f e).number = e.number) (hkey : ∀ e, (f e).key = e.key)
    (hports : ∀ e ∈ s.alerts, (f e).ports.empty = false ∨ e.number ∈ ns) : AlertsLaw ns t := by
  obtain ⟨hlen, hnum, hkeys, hent, hw⟩ := hs
  have hnumbers : t.alerts.map AlertEntry.number = s.alerts.map AlertEntry.number := by
    rw [halerts, List.map_map]; exact List.map_congr_left fun e _ => hnumber e
  have hkeys' : t.alerts.map AlertEntry.key = s.alerts.map AlertEntry.key := by
    rw [halerts, List.map_map]; exact List.map_congr_left fun e _ => hkey e
  have hlength : t.alerts.length = s.alerts.length := by rw [halerts, List.length_map]
  refine ⟨hlength ▸ hlen, hnumbers ▸ hnum, hkeys' ▸ hkeys, fun e he => ?_, fun k hk => ?_⟩
  · rw [halerts] at he
    obtain ⟨x, hx, rfl⟩ := List.mem_map.mp he
    rw [named_congr hlines hlots, hkey, hnumber]
    exact ⟨hports x hx, (hent x hx).2⟩
  · rw [waitingAt_congr hlines hlots] at hk
    obtain ⟨hnone, hfull⟩ := hw k hk
    refine ⟨entryAt_eq_none.mpr fun e he => ?_, hlength ▸ hfull⟩
    rw [halerts] at he
    obtain ⟨x, hx, rfl⟩ := List.mem_map.mp he
    rw [hkey]
    exact entryAt_eq_none.mp hnone x hx

theorem AlertsOk.removeClaim (hs : AlertsOk s) {p : Port} {number : Fin 32} {e : AlertEntry}
    (he : (s.alerts.find? fun e => e.number == number) = some e) (hports : (e.ports.remove p).empty = false) :
    AlertsOk (s.removeClaim number p) := by
  have hmem := List.mem_of_find?_eq_some he
  have hnum : e.number = number := by simpa using List.find?_some he
  refine alertsLaw_nil.mp (AlertsLaw.ports hs (f := fun e => if e.number = number then { e with ports := e.ports.remove p } else e)
    rfl rfl rfl (fun x => ?_) (fun x => ?_) fun x hx => .inl ?_)
  · split <;> rfl
  · split <;> rfl
  · split
    · rename_i hxn
      have : x = e := List.inj_on_of_nodup_map hs.2.1 hx hmem (hxn.trans hnum.symm)
      rw [this]; exact hports
    · exact (hs.2.2.2.1 x hx).1

theorem add_not_empty (q : PortSet) (p : Port) : (q.add p).empty = false := by
  cases p <;> simp [PortSet.add, PortSet.empty]

/-- An entry of a kind that a port's subscription no longer holds loses the port's claim (R141). -/
def unclaim (p : Port) (removed : AlertKind → Bool) (e : AlertEntry) : AlertEntry :=
  if removed e.kind then { e with ports := e.ports.remove p } else e

theorem dropClaims_eq (p : Port) (removed : AlertKind → Bool) (es : List AlertEntry) :
    dropClaims p removed es = es.map (unclaim p removed) := rfl

theorem unclaim_number (p : Port) (removed : AlertKind → Bool) (e : AlertEntry) :
    (unclaim p removed e).number = e.number := by unfold unclaim; split <;> rfl

theorem unclaim_key (p : Port) (removed : AlertKind → Bool) (e : AlertEntry) :
    (unclaim p removed e).key = e.key := by unfold unclaim; split <;> rfl

theorem AlertsOk.setSubscription (hs : AlertsOk s) {p : Port} {kinds : BitVec 9} {s' : State} {st : Status}
    {d : List Byte} (h : setSubscriptionAct p kinds s = .done s' st d) : AlertsOk s' := by
  unfold setSubscriptionAct at h
  rw [← (Answer.done.inj h).1]
  have hport := Frame.setPort (s := s) p { s.port p with subscription := kinds }
  dsimp only
  rw [dropClaims_eq, hport.alerts rfl]
  refine AlertsLaw.departAll _ (AlertsLaw.ports hs rfl (hport.lineWaits rfl) (hport.lotWaits rfl) (unclaim_number _ _)
    (unclaim_key _ _) fun x hx => ?_)
  rw [or_iff_not_imp_left, Bool.not_eq_false]
  intro hempty
  exact List.mem_map.mpr ⟨_, List.mem_filter.mpr ⟨List.mem_map_of_mem hx, hempty⟩, unclaim_number ..⟩

/-! ### Offers of the evaluation and of the pass -/

theorem takeOffers_subject {c : LineCtx} {rec : StripRecord} {x : Computed} {tol : Nat} {o : Offer}
    (h : o ∈ takeOffers c rec x tol) : o.key.subject = .line rec.strip.line := by
  unfold takeOffers at h
  split at h
  · obtain ⟨v, _, hv⟩ := List.mem_filterMap.mp h
    obtain ⟨k, _, rfl⟩ := Option.map_eq_some_iff.mp hv
    rfl
  · obtain ⟨v, _, hv⟩ := List.mem_filterMap.mp h
    unfold rerunOffer at hv
    repeat' split at hv
    all_goals cases hv
    all_goals rfl
  · unfold crossOffer at h
    split at h
    · rw [List.mem_singleton.mp h]
    · cases h
  · cases h

theorem finalOffer_subject {n : Fin 96} {day : Nat} {c : LineCtx} {pt : Point} {part : AimPart}
    {residuals : Table Int 12} {finals : Table Verdict 12} {shift : Fin 12 → Option Int} {v : Fin 12} {o : Offer}
    (h : finalOffer n day c pt part residuals finals shift v = some o) : o.key.subject = .line n := by
  unfold finalOffer at h
  repeat' split at h
  all_goals cases h
  all_goals rfl

theorem AlertsOk.takeRecord (hs : AlertsOk s) (rec : StripRecord) (rest : List StripRecord) :
    AlertsOk (s.takeRecord rec rest) := by
  have hf : Frame [.readers, .heldOrder, .queue, .ports] { s with queue := rest } (State.grant { s with queue := rest }) :=
    grant_frame
  have hg : AlertsOk (State.grant { s with queue := rest }) :=
    hs.congr (hf.alerts rfl) (hf.lineWaits rfl) (hf.lotWaits rfl)
  unfold State.takeRecord State.evaluate
  split
  · exact hg.congr rfl rfl rfl
  · rename_i c l hc
    have hw : ∀ part x, (placed c rec part x).waiting = c.waiting := fun _ _ => by unfold placed; split <;> rfl
    unfold State.place
    refine AlertsOk.offerAll _ (hg.congr rfl (lineWaits_setLine (recheck_ok hc).1 (hw _ _)) rfl) fun o ho => ?_
    rw [takeOffers_subject ho]
    simp [State.named]

theorem AlertsOk.consensus (hs : AlertsOk s) (k : Fin 16) : AlertsOk (s.consensus k) := by
  unfold State.consensus
  split
  · exact hs
  · rename_i l hl
    have hset : AlertsOk (s.setLot k (some (l.afterConsensus s.day.desk s.day.closingDay (s.participants k l)))) :=
      hs.congr rfl rfl (lotWaits_setLot hl rfl)
    refine AlertsOk.congr (AlertsOk.offerAll _ hset fun o ho => ?_) rfl rfl rfl
    obtain ⟨v, _, hv⟩ := List.mem_filterMap.mp ho
    obtain ⟨x, _, rfl⟩ := Option.map_eq_some_iff.mp hv
    simp [State.named]

theorem AlertsOk.finalise (hs : AlertsOk s) (n : Fin 96) : AlertsOk (s.finalise n) := by
  unfold State.finalise
  repeat' split
  · exact hs
  · exact hs
  · rename_i c hc _ pt _ _
    unfold State.finalisePoint
    have hset : ∀ residuals finals shift, AlertsOk (s.setLine n (some (c.finalised pt residuals finals shift))) :=
      fun _ _ _ => hs.congr rfl (lineWaits_setLine hc rfl) rfl
    refine AlertsOk.congr (AlertsOk.offerAll _ (hset _ _ _) fun o ho => ?_) rfl rfl rfl
    obtain ⟨v, _, hv⟩ := List.mem_filterMap.mp ho
    rw [finalOffer_subject hv]
    simp [State.named]
  · exact hs

theorem AlertsOk.overdueScan (hs : AlertsOk s) (n : Fin 96) : AlertsOk (s.overdueScan n) := by
  unfold State.overdueScan
  split
  · exact hs
  · rename_i c hc
    dsimp only
    repeat' split
    · have hset : AlertsOk (s.setLine n (some { c with missed := satSucc 255 c.missed, state := .overdue })) :=
        hs.congr rfl (lineWaits_setLine hc rfl) rfl
      exact AlertsOk.congr (AlertsOk.offer hset (by simp [State.named])) rfl rfl rfl
    · exact hs.congr rfl (lineWaits_setLine hc rfl) rfl
    · exact hs

/-- A load finds an empty list and brings lines and slots at which nothing waits. -/
theorem AlertsOk.restore {x : Image} {body : List Byte} (hx : contentOf body = some x) (halerts : s.alerts = []) :
    AlertsOk (s.restore x) := by
  obtain ⟨_, _, _, hlots, hlines⟩ := contentOf_parts hx
  have hstill : ∀ k, (s.restore x).waitingAt k = none := by
    rintro ⟨y, v⟩
    cases y with
    | line n =>
      cases hc : x.lines.get n with
      | none => simp [State.waitingAt, State.line, State.restore, hc]
      | some c =>
        have hn := hlines n
        rw [hc] at hn
        obtain ⟨st, lab, kind, aim, rfl⟩ := parseLineEntry_some hn
        simp [State.waitingAt, State.line, State.restore, hc, LineCtx.fresh]
    | lot k =>
      cases v with
      | none => rfl
      | some v =>
        cases hl : x.lots.get k with
        | none => simp [State.waitingAt, State.lot, State.restore, hl]
        | some l =>
          have hk := hlots k
          rw [hl] at hk
          simp [State.waitingAt, State.lot, State.restore, hl, (parseLotEntry_some hk).1]
  have hnil : (s.restore x).alerts = [] := halerts
  unfold AlertsOk
  rw [hnil]
  exact ⟨Nat.zero_le _, List.nodup_nil, List.nodup_nil, (fun _ h => nomatch h), fun k hk => by rw [hstill] at hk; cases hk⟩

theorem AlertsOk.reset (s : State) (ready : BitVec 4) (straps : BitVec 3) (level : Nat) :
    AlertsOk (s.resetWhole ready straps level) := by
  refine ⟨Nat.zero_le _, List.nodup_nil, List.nodup_nil, (fun _ h => nomatch h), fun k hk => ?_⟩
  obtain ⟨x, v⟩ := k
  cases x <;> cases v <;> simp [State.waitingAt, State.line, State.lot, State.resetWhole] at hk

theorem AlertsOk.answer (hs : AlertsOk s) (p : Port) (code : Byte) (st : Status) (data : List Byte) :
    AlertsOk (s.answer p code st data) :=
  have hf := Frame.answer (s := s) p code st data
  hs.congr (hf.alerts rfl) (hf.lineWaits rfl) (hf.lotWaits rfl)
end

/-! ### Every row -/

theorem exec_keeps_alerts (i : Instr) (s t : State) (h : exec i s = .next t) (hl : LoadingOk s) (hs : AlertsOk s) :
    AlertsOk t := by
  by_cases hw : (writes i).contains .alerts = false ∧ (writes i).contains .waiting = false
  · have hf := exec_frame h
    exact hs.congr (hf.alerts hw.1) (hf.lineWaits hw.2) (hf.lotWaits hw.2)
  · cases i with
    | powerOnReset ready straps => rw [← Host.Outcome.next.inj h]; exact .reset _ _ _ _
    | restart p ready straps =>
      rw [← Host.Outcome.next.inj h]
      split
      · exact hs
      · exact hs.answer _ _ _ _
      · exact .reset _ _ _ _
    | evaluationTake =>
      rw [← Host.Outcome.next.inj h]
      repeat' split
      · exact hs
      · rename_i rec rest _ _
        have htake : AlertsOk (State.takeRecord { s with drain := s.drain - 1 } rec rest) :=
          AlertsOk.takeRecord (s := { s with drain := s.drain - 1 }) (hs.congr rfl rfl rfl) rec rest
        unfold State.endDrain
        split
        · exact htake.congr rfl rfl rfl
        · exact htake
      · exact hs.takeRecord _ _
      · exact hs
    | consensusStep =>
      rw [← Host.Outcome.next.inj h]
      split
      · exact (hs.consensus _).congr rfl rfl rfl
      · exact hs
    | finalisationStep =>
      rw [← Host.Outcome.next.inj h]
      split
      · exact (hs.finalise _).congr rfl rfl rfl
      · exact hs
    | overdueStep =>
      rw [← Host.Outcome.next.inj h]
      split
      · exact (hs.overdueScan _).congr rfl rfl rfl
      · exact hs
    | loadEnd =>
      obtain rfl | ⟨hload, ⟨o, rfl⟩ | ⟨x, hx, rfl⟩⟩ := exec_loadEnd_cases h
      · exact hs
      · exact hs.congr rfl rfl rfl
      · obtain ⟨_, _, _, _, _, _, _, halerts, _⟩ := hl hload
        exact (AlertsOk.restore hx halerts).congr rfl rfl rfl
    | enrollLine p =>
      rw [← Host.Outcome.next.inj h]
      refine runCommand_keeps AlertsOk (fun t _ _ _ ht => ht.answer _ _ _ _) hs fun bs a s' st d _ _ _ hact => ?_
      obtain ⟨n, _, _, _, rfl⟩ := enrollLineAct_done hact
      exact (hs.setLine (c := some (LineCtx.fresh .enrolled a.1 a.2.1 a.2.2)) (fun c' h => by cases h; rfl)
        fun h => nomatch h).congr rfl rfl rfl
    | withdrawLine p =>
      rw [← Host.Outcome.next.inj h]
      refine runCommand_keeps AlertsOk (fun t _ _ _ ht => ht.answer _ _ _ _) hs fun bs a s' st d _ _ _ hact => ?_
      obtain ⟨c, _, rfl⟩ := withdrawLineAct_done hact
      exact hs.withdraw c
    | defineLot p =>
      rw [← Host.Outcome.next.inj h]
      refine runCommand_keeps AlertsOk (fun t _ _ _ ht => ht.answer _ _ _ _) hs fun bs a s' st d _ _ _ hact => ?_
      obtain ⟨_, _, rfl⟩ := defineLotAct_done hact
      exact hs.setLot (fun l' h => by cases h; rfl) fun h => nomatch h
    | clearLot p =>
      rw [← Host.Outcome.next.inj h]
      refine runCommand_keeps AlertsOk (fun t _ _ _ ht => ht.answer _ _ _ _) hs fun bs a s' st d _ _ _ hact => ?_
      obtain ⟨l, _, rfl⟩ := clearLotAct_done hact
      exact hs.clearLot l
    | ackAlert p =>
      rw [← Host.Outcome.next.inj h]
      refine runCommand_keeps AlertsOk (fun t _ _ _ ht => ht.answer _ _ _ _) hs fun bs a s' st d _ _ _ hact => ?_
      obtain ⟨e, he, rfl | ⟨_, rfl⟩ | ⟨hports, rfl⟩⟩ := ackAlertAct_done hact
      · exact hs
      · exact hs.departAll [a.1]
      · exact hs.removeClaim he hports
    | setSubscription p =>
      rw [← Host.Outcome.next.inj h]
      exact runCommand_keeps AlertsOk (fun t _ _ _ ht => ht.answer _ _ _ _) hs fun bs a s' st d _ _ _ hact =>
        hs.setSubscription hact
    | resetPort p =>
      rw [← Host.Outcome.next.inj h]
      refine runCommand_keeps AlertsOk (fun t _ _ _ ht => ht.answer _ _ _ _) hs fun bs a s' st d _ _ _ hact => ?_
      rw [← (Answer.done.inj hact).1]
      have hclaim : AlertsOk { s with
          holds := s.holds.filter fun h => h.owner != p
          alerts := claimAll p s.alerts } :=
        alertsLaw_nil.mp (AlertsLaw.ports hs (f := fun e => { e with ports := e.ports.add p }) rfl rfl rfl (fun _ => rfl)
          (fun _ => rfl) fun e _ => .inl (add_not_empty _ _))
      have hf := Frame.setPort (s := { s with
          holds := s.holds.filter fun h => h.owner != p
          alerts := claimAll p s.alerts }) p (s.port p).cleared
      exact hclaim.congr (hf.alerts rfl) (hf.lineWaits rfl) (hf.lotWaits rfl)
    | _ => exact absurd ⟨rfl, rfl⟩ hw

/-- Settles O58: an entry leaves a gap that the moving in closes while anything waits, and subjects go only after their
entries. -/
theorem stepKeepsAlertList : Obligations.StepKeepsAlertList := by
  intro s t h hl hs
  have hboth : LoadingOk t ∧ AlertsOk t :=
    step_keeps (P := fun u => LoadingOk u ∧ AlertsOk u) (fun _ _ h => h)
      (fun c u v hc hu => ⟨exec_keeps_loading c u v hc hu.1, exec_keeps_alerts c u v hc hu.1 hu.2⟩) h ⟨hl, hs⟩
  exact hboth.2

end Sys2Proof.Machine
end

-- ==== Characters on the reader lines (02 R17 to R21) ====
section
/-! PROOFS. What a completed character, a break, the end of a space and a change of HEAD-READY do to a line: the entry into
the FIFO said once, and the rows read off it. -/
namespace Sys2Proof.Machine

section
variable {r : Reader} {c last : FifoChar} {init : List FifoChar}

/-! ### The entry into the FIFO (R19) -/

/-- A character with the OVERRUN-AFTER marking. -/
def FifoChar.overrun (c : FifoChar) : FifoChar := ⟨c.data, { c.tags with overrunAfter := true }⟩

theorem enter_room (h : r.fifo.length < 64) : r.enter c = { r with fifo := r.fifo ++ [c] } := if_pos h

theorem enter_full (hf : r.fifo = init ++ [last]) (h : 64 ≤ r.fifo.length) :
    r.enter c = { r with fifo := init ++ [last.overrun] } := by
  have hmark : markNewest r.fifo = init ++ [last.overrun] := by rw [hf, markNewest_append]; rfl
  rw [← hmark]
  exact if_neg (Nat.not_lt.mpr h)

theorem dispose_enters (hon : r.onWire = true) (hready : r.headReady = true) : r.dispose c = r.enter c := by
  simp [Reader.dispose, hon, hready]

theorem dispose_ignored (h : r.onWire = false ∨ r.headReady = false) : r.dispose c = r := by
  obtain h | h := h <;> simp [Reader.dispose, h]

theorem dispose_room (hon : r.onWire = true) (hready : r.headReady = true) (hlt : r.fifo.length < 64) :
    r.dispose c = { r with fifo := r.fifo ++ [c] } := (dispose_enters hon hready).trans (enter_room hlt)

theorem dispose_full (hon : r.onWire = true) (hready : r.headReady = true) (hf : r.fifo = init ++ [last])
    (hfull : 64 ≤ r.fifo.length) : r.dispose c = { r with fifo := init ++ [last.overrun] } :=
  (dispose_enters hon hready).trans (enter_full hf hfull)

theorem onWire_enable (h : r.onWire = true) : r.enable = true := (Reader.onWire_iff.mp h).1

theorem onWire_loopback (h : r.onWire = true) : r.loopback = false := (Reader.onWire_iff.mp h).2

theorem onWire_notInLoop (h : r.onWire = true) : r.inLoop = false := by
  simp [Reader.inLoop, onWire_loopback h]
end

theorem setReader_same (s : State) (rl : Fin 4) : s.setReader rl (s.reader rl) = s := by
  simp [State.setReader, State.reader]

/-! ### The rows -/

section
variable (rl : Fin 4) (data : Byte) (parity stop : Bool) (s : State)

theorem exec_characterComplete :
    exec (.characterComplete rl data parity stop) s = .next (
      if (s.reader rl).withheld.isSome then s
      else if stop then
        s.setReader rl ((s.reader rl).dispose ⟨data, { Tags.none with parity := oddParity data parity }⟩)
      else if (s.reader rl).onWire && !(s.reader rl).breakLatch then
        s.setReader rl { s.reader rl with withheld := some ⟨data, parity⟩ }
      else s) := rfl

theorem exec_breakDetected :
    exec (.breakDetected rl) s = .next (
      if (s.reader rl).breakLatch || (s.reader rl).inLoop then s
      else if (s.reader rl).onWire then
        (s.setReader rl ({ s.reader rl with phase := .hunt, withheld := none, breakLatch := true }.dispose
          ⟨0#8, { Tags.none with brk := true }⟩)).unhold rl
      else s.setReader rl { s.reader rl with breakLatch := true, withheld := none }) := rfl

variable {rl data parity s}

theorem exec_characterComplete_mark (hw : (s.reader rl).withheld = none) :
    exec (.characterComplete rl data parity true) s =
      .next (s.setReader rl ((s.reader rl).dispose ⟨data, ⟨oddParity data parity, false, false, false⟩⟩)) := by
  rw [exec_characterComplete, hw]; rfl

theorem exec_framingCharacterReleased {w : Withheld} (hw : (s.reader rl).withheld = some w) :
    exec (.framingCharacterReleased rl) s = .next (s.setReader rl ({ s.reader rl with withheld := none }.dispose
      ⟨w.data, ⟨oddParity w.data w.parity, true, false, false⟩⟩)) := by
  have hrow : exec (.framingCharacterReleased rl) s = .next (
      match (s.reader rl).withheld with
      | none => s
      | some w =>
        s.setReader rl ({ s.reader rl with withheld := none }.dispose
          ⟨w.data, { Tags.none with framing := true, parity := oddParity w.data w.parity }⟩)) := rfl
  rw [hrow, hw]; rfl

/-- A break on a line on the wire: the assembler hunts, what was withheld goes, and a zero character is disposed of. -/
theorem exec_breakDetected_wire (hon : (s.reader rl).onWire = true) (hl : (s.reader rl).breakLatch = false) :
    exec (.breakDetected rl) s =
      .next ((s.setReader rl ({ s.reader rl with phase := .hunt, withheld := none, breakLatch := true }.dispose
        ⟨0, ⟨false, false, true, false⟩⟩)).unhold rl) := by
  rw [exec_breakDetected, hl, onWire_notInLoop hon, hon]; rfl

/-- A line whose HEAD-READY falls while it is on the wire hunts and leaves the arbiter's order (R20). -/
theorem exec_headReadyChange (s : State) (rl : Fin 4) :
    exec (.headReadyChange rl) s = .next (
      if (s.reader rl).headReady && (s.reader rl).onWire then
        (s.setReader rl { s.reader rl with headReady := !(s.reader rl).headReady, delta := true, phase := .hunt }).unhold rl
      else s.setReader rl { s.reader rl with headReady := !(s.reader rl).headReady, delta := true }) := rfl
end

/-- Settles O4: a disposal enters, marks or ignores, and the rows differ in what they dispose of. -/
theorem characterReception : Obligations.CharacterReception := by
  intro rl data parity s r marked
  refine ⟨fun hw hon hready hlt => ?_, fun init last hw hon hready hf hfull => ?_, fun hw h => ?_, fun hw hon hl => ?_,
    fun hw h => ?_, fun hon hl hroom => ?_, fun init last hon hl hready hf hfull => ?_, fun he hl => ?_, fun h => ?_,
    fun w hw hon hready hlt => ?_, fun w init last hw hon hready hf hfull => ?_, fun w hw hon hready => ?_, rfl,
    fun h => ?_, fun hready hon => ?_⟩
  · rw [exec_characterComplete_mark hw, dispose_room hon hready hlt]
  · rw [exec_characterComplete_mark hw, dispose_full hon hready hf hfull]; rfl
  · rw [exec_characterComplete_mark hw, dispose_ignored h, setReader_same]
  · rw [exec_characterComplete, if_neg (by rw [hw]; exact Bool.false_ne_true), if_neg Bool.false_ne_true,
      if_pos (by rw [hon, hl]; rfl)]
  · rw [exec_characterComplete, hw]
    obtain h | h := h
    · rw [h]; rfl
    · rw [h]; simp
  · rw [exec_breakDetected_wire hon hl]
    refine congrArg (fun x => Host.Outcome.next ((s.setReader rl x).unhold rl)) ?_
    by_cases hready : r.headReady = true
    · rw [if_pos hready]
      exact dispose_room (r := { r with phase := .hunt, withheld := none, breakLatch := true }) hon hready (hroom hready)
    · rw [if_neg hready]
      exact dispose_ignored (r := { r with phase := .hunt, withheld := none, breakLatch := true })
        (.inr (Bool.eq_false_of_not_eq_true hready))
  · rw [exec_breakDetected_wire hon hl]
    exact congrArg (fun x => Host.Outcome.next ((s.setReader rl x).unhold rl)) (dispose_full hon hready hf hfull)
  · have hon : (s.reader rl).onWire = false := by simp [Reader.onWire, show (s.reader rl).enable = _ from he]
    have hin : (s.reader rl).inLoop = false := by simp [Reader.inLoop, show (s.reader rl).enable = _ from he]
    rw [exec_breakDetected, hl, hin, hon]; rfl
  · rw [exec_breakDetected]
    obtain h | h := h
    · rw [h]; rfl
    · rw [h, Bool.or_true]; rfl
  · rw [exec_framingCharacterReleased hw]
    exact congrArg (fun x => Host.Outcome.next (s.setReader rl x)) (dispose_room hon hready hlt)
  · rw [exec_framingCharacterReleased hw]
    exact congrArg (fun x => Host.Outcome.next (s.setReader rl x)) (dispose_full hon hready hf hfull)
  · rw [exec_framingCharacterReleased hw]
    exact congrArg (fun x => Host.Outcome.next (s.setReader rl x)) (dispose_ignored (.inr hready))
  · rw [exec_headReadyChange]
    obtain h | h := h
    · rw [h]; rfl
    · rw [h, Bool.and_false]; rfl
  · rw [exec_headReadyChange, hready, hon]; rfl

/-! ### The transmitter (R31, R38, R39) -/

section
variable {rl : Fin 4} {s : State}

theorem exec_replyCharacterSent (h : (s.reader rl).sendsReply = true) :
    exec (.replyCharacterSent rl) s = .next (s.setReader rl (s.reader rl).nextReply) := by
  have hrow : exec (.replyCharacterSent rl) s =
      .next (if (s.reader rl).sendsReply then s.setReader rl (s.reader rl).nextReply else s) := rfl
  rw [hrow, if_pos h]

theorem exec_testCharacterSent {b : Byte} {rate : Rate} (hl : (s.reader rl).inLoop = true)
    (hs : (s.reader rl).sending = some ⟨.test b, rate⟩) :
    exec (.testCharacterSent rl) s = .next (s.setReader rl ((s.reader rl).enter ⟨b, Tags.none⟩).nextTest) := by
  have hrow : exec (.testCharacterSent rl) s = .next (
      if (s.reader rl).inLoop then
        match (s.reader rl).sending with
        | some ⟨.test b, _⟩ => s.setReader rl ((s.reader rl).enter ⟨b, Tags.none⟩).nextTest
        | some ⟨.reply _, _⟩ => s
        | none => s
      else s) := rfl
  rw [hrow, if_pos hl, hs]

variable {r : Reader}

theorem sendsReply_of {x : Reply} {rate : Rate} (h : r.sending = some ⟨.reply x, rate⟩) : r.sendsReply = true := by
  simp [Reader.sendsReply, h]

theorem nextReply_nil (h : r.waiting = []) : r.nextReply = { r with sending := none } := by
  simp [Reader.nextReply, h]

theorem nextReply_cons {y : Reply} {more : List Reply} (h : r.waiting = y :: more) :
    r.nextReply = { r with sending := some ⟨.reply y, r.rate⟩, waiting := more } := by
  simp [Reader.nextReply, h]

theorem nextTest_nil (h : r.testSender = []) : r.nextTest = { r with sending := none } := by
  simp [Reader.nextTest, h]

theorem nextTest_cons {d : Byte} {more : List Byte} (h : r.testSender = d :: more) :
    r.nextTest = { r with sending := some ⟨.test d, r.rate⟩, testSender := more } := by
  simp [Reader.nextTest, h]

/-- The parity bit makes the ones of a sent character even (R17). -/
theorem parity_even (b : Byte) :
    (((List.range 8).map fun i => b.getLsbD i) ++ [oddOnes b]).count true % 2 = 0 := by
  have hrange : List.range 8 = [0, 1, 2, 3, 4, 5, 6, 7] := by decide
  simp only [hrange, List.map_cons, List.map_nil, oddOnes, List.foldl_cons, List.foldl_nil]
  cases b.getLsbD 0 <;> cases b.getLsbD 1 <;> cases b.getLsbD 2 <;> cases b.getLsbD 3 <;> cases b.getLsbD 4 <;>
    cases b.getLsbD 5 <;> cases b.getLsbD 6 <;> cases b.getLsbD 7 <;> rfl

theorem lineBits_eq (b : Byte) :
    lineBits b = [false] ++ ((List.range 8).map fun i => b.getLsbD i) ++ [oddOnes b, true] := rfl
end

/-- Settles O9: the transmitter's next character, and the bits of the one it sends. -/
theorem transmitterSends : Obligations.TransmitterSends := by
  intro rl s r marked
  refine ⟨fun x rate hs hw => ?_, fun x rate y more hs hw => ?_, fun b rate hl hs ht hlt => ?_,
    fun b rate d more hl hs ht hlt => ?_, fun b rate init last hl hs hf hfull => ⟨fun ht => ?_, fun d more ht => ?_⟩,
    fun hs => ?_, fun x hs => ⟨oddOnes x.char.data, parity_even _, fun hl => ?_, fun hl => ?_⟩⟩
  · rw [exec_replyCharacterSent (sendsReply_of hs), nextReply_nil hw]
  · rw [exec_replyCharacterSent (sendsReply_of hs), nextReply_cons hw]
  · rw [exec_testCharacterSent hl hs, enter_room hlt]
    exact congrArg (fun x => Host.Outcome.next (s.setReader rl x)) (nextTest_nil ht)
  · rw [exec_testCharacterSent hl hs, enter_room hlt]
    exact congrArg (fun x => Host.Outcome.next (s.setReader rl x)) (nextTest_cons ht)
  · rw [exec_testCharacterSent hl hs, enter_full hf hfull]
    exact congrArg (fun x => Host.Outcome.next (s.setReader rl x)) (nextTest_nil ht)
  · rw [exec_testCharacterSent hl hs, enter_full hf hfull]
    exact congrArg (fun x => Host.Outcome.next (s.setReader rl x)) (nextTest_cons ht)
  · simp [Reader.txBits, Reader.loopBits, Reader.sentBits, hs]
  · have hl' : (r.enable && r.loopback) = true := hl
    simp only [Reader.txBits, Reader.loopBits, hl', if_true, Reader.sentBits, hs, Option.map_some, lineBits_eq]
    exact ⟨trivial, trivial⟩
  · have hl' : (r.enable && r.loopback) = false := hl
    simp only [Reader.txBits, Reader.loopBits, hl', Reader.sentBits, hs, Option.map_some, lineBits_eq]
    exact ⟨rfl, rfl⟩

/-! ### SET-READER and TEST-READER (R34 to R40) -/

section
variable {p : Port} {rl : Fin 4} {s : State}

theorem exec_setReader (p : Port) (s : State) :
    exec (.setReader p) s = .next (runCommand .setReader p s parseSetReader noItem setReaderAct) := rfl

theorem exec_testReader (p : Port) (s : State) :
    exec (.testReader p) s = .next (runCommand .testReader p s (parseIndex 4) noItem testReaderAct) := rfl

section
variable {enable loopback : Bool} {rate : Rate} {life : Byte}

theorem parseSetReader_zero (h : life = 0) :
    parseSetReader [byte rl.val, flagByte enable, rate.code, flagByte loopback, life] = .error .range := by
  subst h
  simp [parseSetReader, indexOf_byte (k := 4) (by decide), need, check, bind, Except.bind]

theorem parseSetReader_ok (h : life ≠ 0) :
    parseSetReader [byte rl.val, flagByte enable, rate.code, flagByte loopback, life] =
      .ok ⟨rl, enable, rate, loopback, life.toNat⟩ := by
  have hpos : 1 ≤ life.toNat := by
    rw [Nat.one_le_iff_ne_zero]
    exact fun hz => h (BitVec.eq_of_toNat_eq hz)
  simp [parseSetReader, indexOf_byte (k := 4) (by decide), need, check, bind, Except.bind, hpos]

theorem setReaderAct_keeps {x : ReaderSettings} (h : (s.reader x.rl).discards x = false) :
    setReaderAct x s = .done (s.setReader x.rl ((s.reader x.rl).configure x)) .ok [] := by
  simp [setReaderAct, h]

theorem setReaderAct_discards {x : ReaderSettings} (h : (s.reader x.rl).discards x = true) :
    setReaderAct x s = .done ((s.setReader x.rl ((s.reader x.rl).configure x)).unhold x.rl) .ok [] := by
  simp [setReaderAct, h]

/-- Settings that do not act on the assembler replace the four and nothing else (R34). -/
theorem configure_keeps {r : Reader} {x : ReaderSettings} (hen : r.enable = x.enable)
    (hon : r.enable = true → r.loopback = x.loopback ∧ r.rate = x.rate) :
    r.discards x = false ∧ r.configure x = { r with rate := x.rate, loopback := x.loopback, calLife := x.calLife } := by
  have hd : r.discards x = false := by
    cases he : r.enable with
    | false => simp [Reader.discards, ← hen, he]
    | true => obtain ⟨hl, hr⟩ := hon he; simp [Reader.discards, ← hen, he, hl, hr]
  have ht : r.emptiesTx x = false := by
    cases he : r.enable with
    | false => simp [Reader.emptiesTx, he]
    | true => simp [Reader.emptiesTx, ← hen, he, (hon he).1]
  refine ⟨hd, ?_⟩
  simp [Reader.configure, hd, ht, Reader.leavesTest, ← hen]

theorem discards_of {r : Reader} {x : ReaderSettings}
    (h : r.enable ≠ x.enable ∨ (r.enable = true ∧ (r.loopback ≠ x.loopback ∨ r.rate ≠ x.rate))) : r.discards x = true := by
  obtain h | ⟨he, h | h⟩ := h
  · simp [Reader.discards, h]
  · simp [Reader.discards, he, h]
  · simp [Reader.discards, he, h]

/-- Settings that act on a line outside LOOPBACK (R31, R35). -/
theorem configure_wire {r : Reader} {x : ReaderSettings} (hd : r.discards x = true) (hl : r.inLoop = false) :
    r.configure x = { r with
      enable := x.enable, rate := x.rate, loopback := x.loopback, calLife := x.calLife, fifo := [], withheld := none
      phase := .hunt
      sending := if r.enable = true ∧ (x.enable = false ∨ x.loopback = true) then none else r.sending
      waiting := if r.enable = true ∧ (x.enable = false ∨ x.loopback = true) then [] else r.waiting } := by
  have hleaves : r.leavesTest x = false := by simp [Reader.leavesTest, hl]
  have hempties : r.emptiesTx x = decide (r.enable = true ∧ (x.enable = false ∨ x.loopback = true)) := by
    cases he : r.enable with
    | false => simp [Reader.emptiesTx, he]
    | true =>
      have hloop : r.loopback = false := by simpa [Reader.inLoop, he] using hl
      simp [Reader.emptiesTx, he, hloop]
  simp [Reader.configure, hd, hleaves, hempties]

/-- Settings that act on a line in LOOPBACK (R35, R39, R40). -/
theorem configure_loop {r : Reader} {x : ReaderSettings} (hd : r.discards x = true) (hl : r.inLoop = true) :
    r.configure x = { r with
      enable := x.enable, rate := x.rate, loopback := x.loopback, calLife := x.calLife, fifo := [], withheld := none
      phase := .hunt, sending := none, waiting := if x.enable = false then [] else r.waiting, testSender := []
      test := if r.test = .running then .aborted else r.test } := by
  have hleaves : r.leavesTest x = true := by simp [Reader.leavesTest, hl, hd]
  have hempties : r.emptiesTx x = decide (x.enable = false) := by
    obtain ⟨he, hloop⟩ : r.enable = true ∧ r.loopback = true := by simpa [Reader.inLoop] using hl
    simp [Reader.emptiesTx, he, hloop]
  simp [Reader.configure, hd, hleaves, hempties]
end

/-- Settles O10: the settings parse, act on the assembler or not, and empty the transmitter and the test sender where the
condition they leave or enter asks for it. -/
theorem setReaderReplacesSettings : Obligations.SetReaderReplacesSettings := by
  intro p rl enable rate loopback life s r hx hok
  refine ⟨fun h0 => ?_, fun h0 hen hon => ?_, fun h0 hl hchange => ?_, fun h0 hl hchange => ?_⟩
  · rw [exec_setReader, runCommand_parse hx rfl (parseSetReader_zero h0)]
  · obtain ⟨hd, hc⟩ := configure_keeps (r := s.reader rl) (x := ⟨rl, enable, rate, loopback, life.toNat⟩) hen hon
    rw [exec_setReader, runCommand_go hx rfl (parseSetReader_ok h0) hok, setReaderAct_keeps hd, hc]
  · have hd := discards_of (r := s.reader rl) (x := ⟨rl, enable, rate, loopback, life.toNat⟩) hchange
    rw [exec_setReader, runCommand_go hx rfl (parseSetReader_ok h0) hok, setReaderAct_discards hd, configure_wire hd hl]
    rfl
  · obtain ⟨hen, hloop⟩ : r.enable = true ∧ r.loopback = true := by simpa [Reader.inLoop] using hl
    have hd := discards_of (r := s.reader rl) (x := ⟨rl, enable, rate, loopback, life.toNat⟩) (by
      obtain h | h | h := hchange
      · exact .inl fun h' => Bool.eq_false_iff.mp (h'.trans h) hen
      · exact .inr ⟨hen, .inl fun h' => Bool.eq_false_iff.mp (h'.trans h) hloop⟩
      · exact .inr ⟨hen, .inr h⟩)
    rw [exec_setReader, runCommand_go hx rfl (parseSetReader_ok h0) hok, setReaderAct_discards hd, configure_loop hd hl]
    rfl

theorem parseIndex_reader (rl : Fin 4) : parseIndex 4 [byte rl.val] = .ok rl := parseIndex_byte (by decide) rl

/-- Settles O12: the two refusals of R39 and the start of the test. -/
theorem testReader : Obligations.TestReader := by
  intro p rl s r hx hok
  refine ⟨fun hl => ?_, fun hl ht => ?_, fun hl ht hs hsender => ?_⟩
  · rw [exec_testReader, runCommand_go hx rfl (parseIndex_reader rl) hok]
    simp [testReaderAct, show (s.reader rl).inLoop = _ from hl]
  · rw [exec_testReader, runCommand_go hx rfl (parseIndex_reader rl) hok]
    simp [testReaderAct, show (s.reader rl).inLoop = _ from hl, show (s.reader rl).test = _ from ht]
  · rw [exec_testReader, runCommand_go hx rfl (parseIndex_reader rl) hok]
    have hact : testReaderAct rl s = .done (s.setReader rl
        (Reader.nextTest { s.reader rl with test := .running, testSender := (s.reader rl).testSender ++ testFrame })) .ok [] := by
      simp [testReaderAct, show (s.reader rl).inLoop = _ from hl, show (s.reader rl).test ≠ _ from ht,
        show (s.reader rl).sending = _ from hs]
    have hframe : (s.reader rl).testSender ++ testFrame = Config.startByte :: (testCovered ++ checkBytes testCovered) := by
      rw [show (s.reader rl).testSender = _ from hsender]; rfl
    rw [hact]
    exact congrArg (fun x => Host.Outcome.next ((s.setReader rl x).answer p Command.testReader.code .ok []))
      (nextTest_cons hframe)
end

end Sys2Proof.Machine
end

-- ==== The assembler (02 R21 to R30, R38, R40) ====
section
/-! PROOFS. The character an assembler consumes, the frames it completes, and what a failing and a passing frame do. -/
namespace Sys2Proof.Machine

theorem setReader_setReader (s : State) (rl : Fin 4) (a b : Reader) :
    (s.setReader rl a).setReader rl b = s.setReader rl b := by
  simp [State.setReader]

/-! ### Consumption (R21) -/

theorem exec_consumeCharacter (rl : Fin 4) (s : State) :
    exec (.consumeCharacter rl) s = .next (
      if (s.reader rl).consumes then
        match (s.reader rl).fifo with
        | [] => s
        | c :: rest =>
          if (s.reader rl).loopback then s.setReader rl ({ s.reader rl with fifo := rest }.consumeInLoop c)
          else (s.setReader rl { s.reader rl with fifo := rest }).consumeOnWire rl c
      else s) := rfl

section
variable {r : Reader} {rl : Fin 4} {s : State} {c : FifoChar} {rest : List FifoChar}

theorem consumes_iff : r.consumes = true ↔
    r.enable = true ∧ r.fifo ≠ [] ∧ (∀ st, r.phase ≠ .held st) ∧ (r.loopback = true ∨ r.holdsReply = false) := by
  unfold Reader.consumes
  cases r.phase <;> simp [and_assoc]

theorem exec_consume_not (h : (s.reader rl).consumes = false) : exec (.consumeCharacter rl) s = .next s := by
  rw [exec_consumeCharacter, h]; rfl

theorem exec_consume_wire (hen : (s.reader rl).enable = true) (hl : (s.reader rl).loopback = false)
    (hrep : (s.reader rl).holdsReply = false) (hp : ∀ st, (s.reader rl).phase ≠ .held st)
    (hf : (s.reader rl).fifo = c :: rest) :
    exec (.consumeCharacter rl) s = .next ((s.setReader rl { s.reader rl with fifo := rest }).consumeOnWire rl c) := by
  have hc : (s.reader rl).consumes = true := consumes_iff.mpr ⟨hen, by rw [hf]; exact List.cons_ne_nil _ _, hp, .inr hrep⟩
  have hne : ¬ (s.reader rl).loopback = true := by rw [hl]; exact Bool.false_ne_true
  rw [exec_consumeCharacter, if_pos hc]
  split
  · rename_i hnil; rw [hf] at hnil; cases hnil
  · rename_i hcons; rw [hf] at hcons; cases hcons; rw [if_neg hne]

theorem exec_consume_loop (hen : (s.reader rl).enable = true) (hl : (s.reader rl).loopback = true)
    (hp : ∀ st, (s.reader rl).phase ≠ .held st) (hf : (s.reader rl).fifo = c :: rest) :
    exec (.consumeCharacter rl) s = .next (s.setReader rl (Reader.consumeInLoop { s.reader rl with fifo := rest } c)) := by
  have hc : (s.reader rl).consumes = true := consumes_iff.mpr ⟨hen, by rw [hf]; exact List.cons_ne_nil _ _, hp, .inl hl⟩
  rw [exec_consumeCharacter, if_pos hc]
  split
  · rename_i hnil; rw [hf] at hnil; cases hnil
  · rename_i hcons; rw [hf] at hcons; cases hcons; rw [if_pos hl]

/-! ### Hunting and receiving (R22, R23) -/

theorem starts_iff : c.starts = true ↔ c = ⟨0xA5, ⟨false, false, false, false⟩⟩ := by
  obtain ⟨data, tags⟩ := c
  rw [FifoChar.starts, Bool.and_eq_true, FifoChar.mk.injEq]
  exact and_congr decide_eq_true_iff decide_eq_true_iff

theorem huntStep_starts (h : c = ⟨0xA5, ⟨false, false, false, false⟩⟩) {gate : Bool} (hg : r.headReady = true ∨ gate = false) :
    huntStep r gate c = .receiving [] := by
  have hs := starts_iff.mpr h
  obtain hg | hg := hg <;> simp [huntStep, hs, hg]

theorem huntStep_hunts {gate : Bool}
    (h : c ≠ ⟨0xA5, ⟨false, false, false, false⟩⟩ ∨ (r.headReady = false ∧ gate = true)) : huntStep r gate c = .hunt := by
  obtain h | ⟨h, hg⟩ := h
  · have hs : c.starts = false := Bool.eq_false_of_not_eq_true fun hs => h (starts_iff.mp hs)
    simp [huntStep, hs]
  · simp [huntStep, h, hg]

theorem consumeOnWire_hunt (hp : (s.reader rl).phase = .hunt) :
    s.consumeOnWire rl c = s.setReader rl { s.reader rl with phase := huntStep (s.reader rl) true c } := by
  unfold State.consumeOnWire
  dsimp only
  rw [hp]

section
variable {bs : List Byte}

theorem consumeOnWire_receiving (hp : (s.reader rl).phase = .receiving bs) :
    s.consumeOnWire rl c =
      if c.tags.brk then s.setReader rl { s.reader rl with phase := .hunt }
      else if c.tags.faulty then s.nakFrame rl .lineError none
      else if frameComplete (bs ++ [c.data]) then s.completeFrame rl (bs ++ [c.data])
      else s.setReader rl { s.reader rl with phase := .receiving (bs ++ [c.data]) } := by
  unfold State.consumeOnWire
  dsimp only
  rw [hp]

theorem consumeInLoop_receiving (hp : r.phase = .receiving bs) :
    r.consumeInLoop c =
      if c.tags.brk then { r with phase := .hunt }
      else if c.tags.faulty then r.endTest .lineError
      else if frameComplete (bs ++ [c.data]) then r.endTest (testOutcome (bs ++ [c.data]))
      else { r with phase := .receiving (bs ++ [c.data]) } := by
  unfold Reader.consumeInLoop
  rw [hp]

theorem consumeInLoop_hunt (hp : r.phase = .hunt) : r.consumeInLoop c = { r with phase := huntStep r false c } := by
  unfold Reader.consumeInLoop
  rw [hp]

theorem notHeld_hunt (hp : r.phase = .hunt) : ∀ st, r.phase ≠ .held st := fun _ h => by rw [hp] at h; cases h

theorem notHeld_receiving (hp : r.phase = .receiving bs) : ∀ st, r.phase ≠ .held st := fun _ h => by rw [hp] at h; cases h

theorem consume_wire_hunt (hen : (s.reader rl).enable = true) (hl : (s.reader rl).loopback = false)
    (hrep : (s.reader rl).holdsReply = false) (hp : (s.reader rl).phase = .hunt) (hf : (s.reader rl).fifo = c :: rest) :
    exec (.consumeCharacter rl) s =
      .next (s.setReader rl { s.reader rl with fifo := rest, phase := huntStep (s.reader rl) true c }) := by
  rw [exec_consume_wire hen hl hrep (notHeld_hunt hp) hf,
    consumeOnWire_hunt (by rw [State.setReader_reader_self]; exact hp), State.setReader_reader_self, setReader_setReader]
  rfl

theorem consume_wire_receiving (hen : (s.reader rl).enable = true) (hl : (s.reader rl).loopback = false)
    (hrep : (s.reader rl).holdsReply = false) (hp : (s.reader rl).phase = .receiving bs)
    (hf : (s.reader rl).fifo = c :: rest) :
    exec (.consumeCharacter rl) s = .next (
      if c.tags.brk then s.setReader rl { s.reader rl with fifo := rest, phase := .hunt }
      else if c.tags.faulty then (s.setReader rl { s.reader rl with fifo := rest }).nakFrame rl .lineError none
      else if frameComplete (bs ++ [c.data]) then
        (s.setReader rl { s.reader rl with fifo := rest }).completeFrame rl (bs ++ [c.data])
      else s.setReader rl { s.reader rl with fifo := rest, phase := .receiving (bs ++ [c.data]) }) := by
  rw [exec_consume_wire hen hl hrep (notHeld_receiving hp) hf,
    consumeOnWire_receiving (by rw [State.setReader_reader_self]; exact hp), State.setReader_reader_self,
    setReader_setReader, setReader_setReader]

theorem consume_loop_hunt (hen : (s.reader rl).enable = true) (hl : (s.reader rl).loopback = true)
    (hp : (s.reader rl).phase = .hunt) (hf : (s.reader rl).fifo = c :: rest) :
    exec (.consumeCharacter rl) s =
      .next (s.setReader rl { s.reader rl with fifo := rest, phase := huntStep (s.reader rl) false c }) := by
  rw [exec_consume_loop hen hl (notHeld_hunt hp) hf]
  exact congrArg (fun x => Host.Outcome.next (s.setReader rl x))
    (consumeInLoop_hunt (r := { s.reader rl with fifo := rest }) hp)

theorem consume_loop_receiving (hen : (s.reader rl).enable = true) (hl : (s.reader rl).loopback = true)
    (hp : (s.reader rl).phase = .receiving bs) (hf : (s.reader rl).fifo = c :: rest) :
    exec (.consumeCharacter rl) s = .next (s.setReader rl (
      if c.tags.brk then { s.reader rl with fifo := rest, phase := .hunt }
      else if c.tags.faulty then Reader.endTest { s.reader rl with fifo := rest } .lineError
      else if frameComplete (bs ++ [c.data]) then
        Reader.endTest { s.reader rl with fifo := rest } (testOutcome (bs ++ [c.data]))
      else { s.reader rl with fifo := rest, phase := .receiving (bs ++ [c.data]) })) := by
  rw [exec_consume_loop hen hl (notHeld_receiving hp) hf]
  exact congrArg (fun x => Host.Outcome.next (s.setReader rl x))
    (consumeInLoop_receiving (r := { s.reader rl with fifo := rest }) hp)

theorem clean_tags (h : c.tags = ⟨false, false, false, false⟩) : c.tags.brk = false ∧ c.tags.faulty = false := by
  rw [h]; exact ⟨rfl, rfl⟩

theorem faulty_tags (h : c.tags.parity = true ∨ c.tags.framing = true ∨ c.tags.overrunAfter = true) :
    c.tags.faulty = true := by
  obtain h | h | h := h <;> simp [Tags.faulty, h]

end
end

/-! ### The bytes of a frame (R23, R25) -/

theorem frameComplete_cons (n : Byte) (more : List Byte) : frameComplete (n :: more) = true ↔ more.length = n.toNat + 2 := by
  simp [frameComplete]

theorem crcOk_append (covered : List Byte) (a b : Byte) :
    crcOk (covered ++ [a, b]) = decide ([a, b] = checkBytes covered) := by
  have hlen : (covered ++ [a, b]).length - 2 = covered.length := by simp
  rw [crcOk, hlen, List.drop_left, List.take_left]

section
variable {lengths : Byte → Option Nat} {n k a b : Byte} {body payload : List Byte}

theorem frameFault_crc (h : [a, b] ≠ checkBytes (n :: body)) : frameFault lengths (n :: body ++ [a, b]) = some .crc := by
  have hc : crcOk (n :: body ++ [a, b]) = false := by rw [crcOk_append]; exact decide_eq_false h
  unfold frameFault; rw [hc]; rfl

theorem frameFault_kind (h : [a, b] = checkBytes (n :: k :: payload)) :
    frameFault lengths (n :: (k :: payload) ++ [a, b]) =
      if n.toNat = 0 then some .length
      else match lengths k with
        | none => some .kind
        | some len => if n.toNat = len then none else some .length := by
  have hc : crcOk (n :: (k :: payload) ++ [a, b]) = true := by rw [crcOk_append]; exact decide_eq_true h
  unfold frameFault; rw [if_pos hc]; rfl

/-- A frame of length 0 has no kind byte: the length is refused (step 2 of R25). -/
theorem frameFault_zero (h : [a, b] = checkBytes (n :: body)) (hlen : body.length = n.toNat) (hz : n = 0) :
    frameFault lengths (n :: body ++ [a, b]) = some .length := by
  have hnil : body = [] := List.length_eq_zero_iff.mp (by rw [hlen, hz]; rfl)
  have hc : crcOk (n :: body ++ [a, b]) = true := by rw [crcOk_append]; exact decide_eq_true h
  unfold frameFault
  rw [if_pos hc, hnil, hz]; rfl

end

theorem toNat_ne_zero_of_cons {n k : Byte} {payload : List Byte} (h : (k :: payload).length = n.toNat) : n.toNat ≠ 0 := by
  rw [← h]; exact Nat.succ_ne_zero _

/-- Settles O5: consumption by phase, on the wire and in LOOPBACK, and the outcome of a test frame by the steps of R25. -/
theorem assemblerConsumption : Obligations.AssemblerConsumption := by
  refine ⟨?_, ?_, ⟨rfl, frameComplete_cons⟩, ?_⟩
  · intro rl c rest s r outcome hen hf
    refine ⟨fun hl hrep => ?_, fun hl hrep hp hc hready => ?_, fun hl hrep hp hc => ?_, fun hl hp hc => ?_,
      fun hl hp hc => ?_, fun bs hl hrep hp hbrk => ?_, fun bs hmode hp ht hincomplete => ?_,
      fun bs hl hp ht hcomplete => ?_, fun bs hl hp hbrk hfault => ?_, fun st hl hp => ?_⟩
    · refine exec_consume_not (Bool.eq_false_of_not_eq_true fun h => ?_)
      obtain ⟨_, _, _, h | h⟩ := consumes_iff.mp h
      · exact Bool.eq_false_iff.mp hl h
      · exact Bool.eq_false_iff.mp h hrep
    · rw [consume_wire_hunt hen hl hrep hp hf, huntStep_starts hc (.inl hready)]
    · rw [consume_wire_hunt hen hl hrep hp hf, huntStep_hunts (hc.imp_right fun h => ⟨h, rfl⟩), ← hp]
    · rw [consume_loop_hunt hen hl hp hf, huntStep_starts hc (.inr rfl)]
    · rw [consume_loop_hunt hen hl hp hf, huntStep_hunts (.inl hc), ← hp]
    · rw [consume_wire_receiving hen hl hrep hp hf, if_pos hbrk]
    · obtain ⟨hbrk, hfaulty⟩ := clean_tags ht
      by_cases hl : r.loopback = true
      · rw [consume_loop_receiving hen hl hp hf, hbrk, hfaulty, hincomplete]
        rfl
      · rw [consume_wire_receiving hen (Bool.eq_false_of_not_eq_true hl) (hmode.resolve_left hl) hp hf, hbrk, hfaulty,
          hincomplete]
        rfl
    · obtain ⟨hbrk, hfaulty⟩ := clean_tags ht
      rw [consume_loop_receiving hen hl hp hf, hbrk, hfaulty, hcomplete]; rfl
    · rw [consume_loop_receiving hen hl hp hf, hbrk, faulty_tags hfault]; rfl
    · refine exec_consume_not (Bool.eq_false_of_not_eq_true fun h => ?_)
      obtain ⟨_, _, hnot, _⟩ := consumes_iff.mp h
      exact hnot st hp
  · intro rl bs s r hl hp hf
    have hrow : exec (.interCharacterTimeout rl) s = .next (
        if r.interCharacterRuns then
          if r.loopback then s.setReader rl (r.endTest .timeout) else s.nakFrame rl .timeout none
        else s) := rfl
    obtain ⟨hen, hloop⟩ : r.enable = true ∧ r.loopback = true := by simpa [Reader.inLoop] using hl
    have hruns : r.interCharacterRuns = true := by simp [Reader.interCharacterRuns, hen, hf, hp]
    rw [hrow, if_pos hruns, if_pos hloop]; rfl
  · intro n body a b hlen result
    refine ⟨fun hcrc => ?_, fun hcrc => ⟨fun hz => ?_, ?_⟩⟩
    · simp only [result, testOutcome, frameFault_crc hcrc]
    · simp only [result, testOutcome, frameFault_zero hcrc hlen hz]
    · rintro k payload rfl
      have hne := toNat_ne_zero_of_cons hlen
      have hfault := frameFault_kind (lengths := testLengths) hcrc
      rw [if_neg hne] at hfault
      refine ⟨fun hk => ?_, fun hk hn => ?_, fun hk hn => ?_⟩
      · have hlk : testLengths k = none := if_neg hk
        simp only [result, testOutcome, hfault, hlk]
      · have hlk : testLengths k = some 7 := if_pos hk
        have hn7 : n.toNat ≠ 7 := fun h => hn (BitVec.eq_of_toNat_eq h)
        simp only [result, testOutcome, hfault, hlk, if_neg hn7]
      · have hlk : testLengths k = some 7 := if_pos hk
        have hn7 : n.toNat = 7 := by rw [hn]; rfl
        simp only [result, testOutcome, hfault, hlk, if_pos hn7]

/-! ### Replies to frames (R25 to R29, R31, R32) -/

section
variable {s : State} {rl : Fin 4}

theorem reply_idle {r : Reader} (h : r.sending = none) (x : Reply) :
    r.reply x = { r with sending := some ⟨.reply x, r.rate⟩ } := by
  simp [Reader.reply, h]

/-- A failing frame with the transmitter empty (R25, R32). -/
theorem nakFrame_idle (h : (s.reader rl).sending = none) (c : Nak) (lab : Option Nat) :
    s.nakFrame rl c lab = { (s.setReader rl { s.reader rl with
        phase := .hunt, sending := some ⟨.reply (.nak c), (s.reader rl).rate⟩
        fault := ⟨some (.nak c), some .frame, lab, some s.day.number, satSucc 255 (s.reader rl).fault.count⟩ }) with
      mp0 := { s.mp0 with readerFlag := true }, mp1 := { s.mp1 with readerFlag := true } } := by
  have hreply := reply_idle (r := { s.reader rl with phase := .hunt }) h (.nak c)
  rw [State.nakFrame, hreply]
  simp only [State.chargeFault, State.setReader_reader_self, setReader_setReader]
  rfl

/-- A failing frame after its last character left the FIFO. -/
theorem nakFrame_consumed {rest : List FifoChar} (h : (s.reader rl).sending = none) (c : Nak) (lab : Option Nat) :
    (s.setReader rl { s.reader rl with fifo := rest }).nakFrame rl c lab = { (s.setReader rl { s.reader rl with
        fifo := rest, phase := .hunt, sending := some ⟨.reply (.nak c), (s.reader rl).rate⟩
        fault := ⟨some (.nak c), some .frame, lab, some s.day.number, satSucc 255 (s.reader rl).fault.count⟩ }) with
      mp0 := { s.mp0 with readerFlag := true }, mp1 := { s.mp1 with readerFlag := true } } := by
  rw [nakFrame_idle (by rw [State.setReader_reader_self]; exact h), State.setReader_reader_self, setReader_setReader]
  rfl

/-- The judgement of a frame does not see that its last character left the FIFO. -/
theorem judgeFrame_consumed (s : State) (rl : Fin 4) (rest : List FifoChar) (bs : List Byte) :
    judgeFrame (s.setReader rl { s.reader rl with fifo := rest }) rl bs = judgeFrame s rl bs := by
  refine judgeFrame_congr rfl rfl rfl rfl ?_
  rw [State.setReader_reader_self]

theorem appendStrip_idle {rest : List FifoChar} (h : (s.reader rl).sending = none) (st : Strip) :
    (s.setReader rl { s.reader rl with fifo := rest }).appendStrip rl st = { s.setReader rl { s.reader rl with
        fifo := rest, phase := .hunt, sending := some ⟨.reply .accepted, (s.reader rl).rate⟩
        cal := (s.reader rl).cal.serve } with
      queue := s.queue ++ [⟨st, s.day.number⟩] } := by
  have hreply := reply_idle (r := { s.reader rl with fifo := rest, phase := .hunt, cal := (s.reader rl).cal.serve }) h
    .accepted
  simp only [State.appendStrip, State.setReader_reader_self, setReader_setReader, hreply]
  rfl

theorem holdStrip_idle {rest : List FifoChar} (h : (s.reader rl).sending = none) (st : Strip) :
    (s.setReader rl { s.reader rl with fifo := rest }).holdStrip rl st = { s.setReader rl { s.reader rl with
        fifo := rest, phase := .held st, sending := some ⟨.reply .wait, (s.reader rl).rate⟩ } with
      heldOrder := s.heldOrder ++ [rl] } := by
  have hreply := reply_idle (r := { s.reader rl with fifo := rest, phase := .held st }) h .wait
  simp only [State.holdStrip, State.setReader_reader_self, setReader_setReader, hreply]
  rfl

theorem acceptCal_idle {rest : List FifoChar} (h : (s.reader rl).sending = none) (f : CalFrame) :
    (s.setReader rl { s.reader rl with fifo := rest }).acceptCal rl f = s.setReader rl { s.reader rl with
        fifo := rest, phase := .hunt, sending := some ⟨.reply .accepted, (s.reader rl).rate⟩
        cal := .valid f.opens f.gate (s.reader rl).calLife } := by
  have hreply := reply_idle (r := { s.reader rl with
    fifo := rest, phase := .hunt, cal := .valid f.opens f.gate (s.reader rl).calLife }) h .accepted
  simp only [State.acceptCal, State.setReader_reader_self, setReader_setReader, hreply]

theorem holdsReply_idle {r : Reader} (hs : r.sending = none) (hw : r.waiting = []) : r.holdsReply = false := by
  simp [Reader.holdsReply, hs, hw]
end

/-- Settles O6: the four ways a frame fails, each with one answer and one record. -/
theorem failingFramesAreAnswered : Obligations.FailingFramesAreAnswered := by
  intro rl s r nak hon hs hw
  have hen := onWire_enable hon
  have hl := onWire_loopback hon
  have hrep := holdsReply_idle hs hw
  refine ⟨fun bs c rest hp hf hbrk hfault => ?_, fun bs c rest code lab hp hf ht hcomplete hj => ?_, fun bs hp hf => ?_,
    fun st hp => ?_⟩
  · rw [consume_wire_receiving hen hl hrep hp hf, hbrk, faulty_tags hfault]
    exact congrArg Host.Outcome.next (nakFrame_consumed hs .lineError none)
  · obtain ⟨hbrk, hfaulty⟩ := clean_tags ht
    rw [consume_wire_receiving hen hl hrep hp hf, hbrk, hfaulty, hcomplete]
    have hj' := (judgeFrame_consumed s rl rest (bs ++ [c.data])).trans hj
    refine congrArg Host.Outcome.next (Eq.trans ?_ (nakFrame_consumed hs code lab))
    show State.completeFrame _ _ _ = _
    rw [State.completeFrame, hj']
  · have hrow : exec (.interCharacterTimeout rl) s = .next (
        if r.interCharacterRuns then
          if r.loopback then s.setReader rl (r.endTest .timeout) else s.nakFrame rl .timeout none
        else s) := rfl
    have hruns : r.interCharacterRuns = true := by simp [Reader.interCharacterRuns, show r.enable = true from hen, hf, hp]
    rw [hrow, if_pos hruns, if_neg (Bool.eq_false_iff.mp hl)]
    exact congrArg Host.Outcome.next (nakFrame_idle hs .timeout none)
  · have hrow : exec (.holdClockExpiry rl) s = .next (
        if r.onWire then
          match r.phase with
          | .held st => (s.nakFrame rl .full (some st.lab)).unhold rl
          | .hunt => s
          | .receiving _ => s
        else s) := rfl
    rw [hrow, if_pos hon, hp]
    exact congrArg (fun x => Host.Outcome.next (State.unhold x rl)) (nakFrame_idle hs .full (some st.lab))

/-- Settles O8: the judgement of the completed frame is that of the state before its last character, and each outcome
answers with the transmitter empty. -/
theorem acceptedFrames : Obligations.AcceptedFrames := by
  intro rl bs c rest s r hon hs hw hp hf ht hcomplete
  obtain ⟨hbrk, hfaulty⟩ := clean_tags ht
  have hconsume : exec (.consumeCharacter rl) s =
      .next ((s.setReader rl { r with fifo := rest }).completeFrame rl (bs ++ [c.data])) := by
    rw [consume_wire_receiving (onWire_enable hon) (onWire_loopback hon) (holdsReply_idle hs hw) hp hf, hbrk, hfaulty,
      hcomplete]
    rfl
  have hjudge := judgeFrame_consumed s rl rest (bs ++ [c.data])
  refine ⟨fun st opens g left hj hcal hlen hnil => ?_, fun st hj hfull => ?_, fun f hj => ?_⟩
  · have hroom : (decide (s.queue.length < Config.queueDepth) && s.heldOrder.isEmpty) = true := by
      simp [hnil, Config.queueDepth, hlen]
    have hserve : (s.reader rl).cal.serve = if left ≤ 1 then .spent opens g else .valid opens g (left - 1) := by
      rw [show (s.reader rl).cal = .valid opens g left from hcal]; rfl
    rw [hconsume, State.completeFrame, hjudge, hj, ← hserve, ← appendStrip_idle hs]
    exact congrArg Host.Outcome.next (if_pos hroom)
  · have hroom : (decide (s.queue.length < Config.queueDepth) && s.heldOrder.isEmpty) = false := by
      obtain h | h := hfull
      · simp [Config.queueDepth, Nat.not_lt.mpr h]
      · simp [h]
    rw [hconsume, State.completeFrame, hjudge, hj, ← holdStrip_idle hs]
    exact congrArg Host.Outcome.next (if_neg (Bool.eq_false_iff.mp hroom))
  · rw [hconsume, State.completeFrame, hjudge, hj, ← acceptCal_idle hs]

end Sys2Proof.Machine
end

-- ==== The checks on a frame (02 R25, R27) ====
section
/-! PROOFS. The fields of STRIP and CAL frames read back from their bytes, and the checks on a frame in their order. -/
namespace Sys2Proof.Machine

/-! ### The fields (R181) -/

theorem nat16s_bytes : ∀ {l : List Nat}, (∀ x ∈ l, x < 65536) → nat16s (l.flatMap bytes16) = l
  | [], _ => rfl
  | x :: l, h => by
    have hx := nat16_bytes (h x (List.mem_cons_self ..))
    have ih := nat16s_bytes fun y hy => h y (List.mem_cons_of_mem _ hy)
    have hsplit : (x :: l).flatMap bytes16 = byte (x / 256) :: byte x :: l.flatMap bytes16 := by
      simp [bytes16]
    rw [hsplit, nat16s, hx, ih]

theorem twelve_cells {α : Type} (t : Table α 12) : twelve t.cells = some t := by
  unfold twelve
  rw [dif_pos t.size]

theorem get_lt_of_mem {n b : Nat} {t : Table Nat n} (h : ∀ i, t.get i < b) : ∀ x ∈ t.cells, x < b := fun x hx => by
  obtain ⟨i, rfl⟩ := (Table.mem_cells t x).mp hx
  exact h i

theorem bytes16_eq (n : Nat) : bytes16 n = [byte (n / 256), byte n] := rfl

theorem bytes32_eq (n : Nat) : bytes32 n = [byte (n / 16777216), byte (n / 65536), byte (n / 256), byte n] := rfl

theorem stripFields_bytes {f : StripFrame} (n k a b : Byte) (hlab : f.lab < 65536) (hcode : f.code < 4294967296)
    (hgate : f.gate < 65536) (hcounts : ∀ i, f.counts.get i < 65536) :
    stripFields (n :: (k :: (bytes16 f.lab ++ [f.kindCode] ++ bytes32 f.code ++ bytes16 f.gate ++
      f.counts.cells.flatMap bytes16)) ++ [a, b]) = some f := by
  have hlen : (f.counts.cells.flatMap bytes16).length = 24 := by
    rw [flatMap_length bytes16 2 fun _ => rfl, f.counts.size]
  have htake : (f.counts.cells.flatMap bytes16 ++ [a, b]).take 24 = f.counts.cells.flatMap bytes16 := by
    rw [← hlen, List.take_left]
  simp only [bytes16_eq f.lab, bytes16_eq f.gate, bytes32_eq, List.cons_append, List.nil_append,
    stripFields, htake, nat16s_bytes (get_lt_of_mem hcounts), twelve_cells, Option.map_some, nat16_bytes hlab,
    nat16_bytes hgate, nat32_bytes hcode]

theorem calFields_bytes {f : CalFrame} (n k a b : Byte) (hgate : f.gate < 65536) (hopens : ∀ i, f.opens.get i < 65536) :
    calFields (n :: (k :: (bytes16 f.gate ++ f.opens.cells.flatMap bytes16)) ++ [a, b]) = some f := by
  have hcells := get_lt_of_mem hopens
  obtain ⟨gate, cells, hsize⟩ := f
  obtain ⟨x, y, z, rfl⟩ := List.length_eq_three.mp hsize
  have hx := nat16_bytes (hcells x (by simp))
  have hy := nat16_bytes (hcells y (by simp))
  have hz := nat16_bytes (hcells z (by simp))
  simp only [bytes16_eq, List.flatMap_cons, List.flatMap_nil, List.cons_append, List.nil_append, List.append_nil,
    calFields, nat16_bytes hgate, hx, hy, hz]

/-! ### The judgement of a frame (R25) -/

section
variable {s : State} {rl : Fin 4} {n k a b : Byte} {body payload : List Byte}

theorem judgeFrame_fault {bs : List Byte} {c : Nak} (h : frameFault headLengths bs = some c) :
    judgeFrame s rl bs = .nak c none := by
  unfold judgeFrame; rw [h]

theorem judgeFrame_strip {bs : List Byte} {f : StripFrame} (h : frameFault headLengths bs = none)
    (hk : bs[1]? = some stripKind) (hf : stripFields bs = some f) : judgeFrame s rl bs = judgeStrip s rl f := by
  unfold judgeFrame
  rw [h]
  dsimp only
  rw [if_pos hk, hf]

theorem judgeFrame_cal {bs : List Byte} {f : CalFrame} (h : frameFault headLengths bs = none)
    (hk : bs[1]? ≠ some stripKind) (hf : calFields bs = some f) : judgeFrame s rl bs = judgeCal s f := by
  unfold judgeFrame
  rw [h]
  dsimp only
  rw [if_neg hk, hf]

/-- Steps 2 and 3 of R25 on a frame whose check code is right and whose length is not 0. -/
theorem frameFault_checked {lengths : Byte → Option Nat} (hcrc : [a, b] = checkBytes (n :: k :: payload))
    (hlen : (k :: payload).length = n.toNat) :
    frameFault lengths (n :: (k :: payload) ++ [a, b]) =
      match lengths k with
      | none => some .kind
      | some len => if n.toNat = len then none else some .length :=
  (frameFault_kind hcrc).trans (if_neg (toNat_ne_zero_of_cons hlen))

theorem headLengths_strip (h : k = 0x21) : headLengths k = some 34 := if_pos h

theorem headLengths_cal (h : k = 0x22) : headLengths k = some 9 := by subst h; rfl

theorem headLengths_other (h : k ≠ 0x21) (h' : k ≠ 0x22) : headLengths k = none :=
  (if_neg h).trans (if_neg h')

theorem toNat_ne_of_ne {m : Byte} (h : n ≠ m) : n.toNat ≠ m.toNat := fun heq => h (BitVec.eq_of_toNat_eq heq)

theorem judgeStrip_loading {f : StripFrame} (h : s.store.loading = true) :
    judgeStrip s rl f = .nak .notReady (some f.lab) := if_pos h

theorem judgeStrip_ready {f : StripFrame} (h : s.store.loading = false) :
    judgeStrip s rl f = match stripCheck s rl f with
      | .error c => .nak c (some f.lab)
      | .ok st => .strip st := if_neg (Bool.eq_false_iff.mp h)

theorem judgeCal_loading {f : CalFrame} (h : s.store.loading = true) : judgeCal s f = .nak .notReady none := if_pos h

theorem judgeCal_ready {f : CalFrame} (h : s.store.loading = false) :
    judgeCal s f = if f.acceptable then .cal f else .nak .calWeak none := if_neg (Bool.eq_false_iff.mp h)

theorem acceptable_iff {f : CalFrame} :
    f.acceptable = true ↔ 256 ≤ f.gate ∧ f.gate ≤ 16384 ∧ ∀ i, 1024 ≤ f.opens.get i := by
  have hall : (∀ x ∈ f.opens.cells, 1024 ≤ x) ↔ ∀ i, 1024 ≤ f.opens.get i := by
    constructor
    · exact fun h i => h _ ((Table.mem_cells _ _).mpr ⟨i, rfl⟩)
    · intro h x hx
      obtain ⟨i, rfl⟩ := (Table.mem_cells _ _).mp hx
      exact h i
  simp only [CalFrame.acceptable, Bool.and_eq_true, decide_eq_true_eq, List.all_eq_true, hall, and_assoc]
end

/-! ### The checks of R27 -/

section
variable {s : State} {rl : Fin 4} {f : StripFrame} {kind : ProcessKind} {n : Fin 96} {ctx : LineCtx}

theorem stripCheck_lineFault {c : Nak} (h : lineCheck s f = .error c) : stripCheck s rl f = .error c := by
  unfold stripCheck; rw [h]

theorem lineCheck_none (h : kindOf f.kindCode = none ∨ f.lab = 0 ∨ 65535 ≤ f.lab) : lineCheck s f = .error .notEnrolled := by
  unfold lineCheck
  split
  · rfl
  · rename_i kind hk
    obtain h | h := h
    · rw [hk] at h; cases h
    · have hlab : labOk f.lab = false := Bool.eq_false_of_not_eq_true fun hok => by
        obtain ⟨hlow, hhigh⟩ := labOk_iff.mp hok
        omega
      rw [hlab]; rfl

theorem lineCheck_unknown (hk : kindOf f.kindCode = some kind) (hn : s.findLine f.lab kind = none) :
    lineCheck s f = .error .notEnrolled := by
  unfold lineCheck
  rw [hk]
  dsimp only
  rw [hn]
  split <;> rfl

theorem lineCheck_found (hk : kindOf f.kindCode = some kind) (hlow : 1 ≤ f.lab) (hhigh : f.lab ≤ 65534)
    (hn : s.findLine f.lab kind = some n) (hc : s.line n = some ctx) :
    lineCheck s f = if ctx.state = .suspended then .error .suspended else .ok (n, ctx) := by
  unfold lineCheck
  rw [hk]
  dsimp only
  rw [if_pos (labOk_iff.mpr ⟨hlow, hhigh⟩), hn]
  dsimp only
  rw [hc]

theorem stripCheck_line (h : lineCheck s f = .ok (n, ctx)) :
    stripCheck s rl f = match lotCheck s ctx.kind f.code with
      | .error c => .error c
      | .ok k =>
        match calCheck (s.reader rl).cal f.gate f.counts with
        | .error c => .error c
        | .ok rs => .ok ⟨rl, f.lab, ctx.kind, f.code, k, n, rs⟩ := by
  unfold stripCheck; rw [h] <;> rfl

theorem lotCheck_unknown {code : Nat} (h : s.findLot code = none) : lotCheck s kind code = .error .lotUnknown := by
  unfold lotCheck; rw [h]

theorem lotCheck_found {code : Nat} {k : Fin 16} {l : Lot} (h : s.findLot code = some k) (hl : s.lot k = some l) :
    lotCheck s kind code =
      if l.kind ≠ kind then .error .wrongProcess else if l.state = .retired then .error .lotRetired else .ok k := by
  unfold lotCheck
  rw [h]
  dsimp only
  rw [hl]

theorem calCheck_notInForce {cal : Calibration} {gate : Nat} {counts : Table Nat 12} (h : cal.inForce = false) :
    calCheck cal gate counts = .error .uncalibrated := by
  cases cal with
  | valid opens g left => cases h
  | _ => rfl
end

/-- Settles O7: the faults of R25 in their order, then the store state, then the checks of R27 in theirs. -/
theorem stripFrameChecksInOrder : Obligations.StripFrameChecksInOrder := by
  refine ⟨?_, ?_⟩
  · intro s rl n body a b hlen judged
    refine ⟨fun hcrc => judgeFrame_fault (frameFault_crc hcrc),
      fun hcrc => ⟨fun hz => judgeFrame_fault (frameFault_zero hcrc hlen hz), ?_⟩⟩
    rintro k payload rfl
    have hfault := frameFault_checked (lengths := headLengths) hcrc hlen
    refine ⟨fun hs hc => ?_, fun hk hn => ?_, fun hk hn => ?_, fun f hk hn hp hlab hcode hgate hcounts => ?_,
      fun f hk hn hp hgate hopens => ?_⟩
    · rw [headLengths_other hs hc] at hfault
      exact judgeFrame_fault hfault
    · rw [headLengths_strip hk] at hfault
      exact judgeFrame_fault (hfault.trans (if_neg (toNat_ne_of_ne hn)))
    · rw [headLengths_cal hk] at hfault
      exact judgeFrame_fault (hfault.trans (if_neg (toNat_ne_of_ne hn)))
    · subst hk hn hp
      have hjudge : judged = judgeStrip s rl f :=
        judgeFrame_strip hfault rfl (stripFields_bytes _ _ a b hlab hcode hgate hcounts)
      rw [hjudge]
      refine ⟨judgeStrip_loading, fun hready => ⟨fun c hc => ?_, fun st hst => ?_⟩⟩
      · rw [judgeStrip_ready hready, hc]
      · rw [judgeStrip_ready hready, hst]
    · subst hk hn hp
      have hjudge : judged = judgeCal s f :=
        judgeFrame_cal hfault (fun h => nomatch h) (calFields_bytes _ _ a b hgate hopens)
      rw [hjudge]
      refine ⟨judgeCal_loading, fun hready => ⟨fun hlow hhigh hopen => ?_, fun hweak => ?_⟩⟩
      · rw [judgeCal_ready hready, if_pos (acceptable_iff.mpr ⟨hlow, hhigh, hopen⟩)]
      · rw [judgeCal_ready hready, if_neg]
        intro hacc
        obtain ⟨hlow, hhigh, hopen⟩ := acceptable_iff.mp hacc
        obtain h | h | ⟨i, hi⟩ := hweak
        · omega
        · omega
        · exact absurd (hopen i) (Nat.not_le.mpr hi)
  · intro s rl f kind n ctx k l
    refine ⟨fun h => stripCheck_lineFault (lineCheck_none h), fun hk hn => stripCheck_lineFault (lineCheck_unknown hk hn),
      fun hk hlow hhigh hn hc => ?_⟩
    have hline := lineCheck_found hk hlow hhigh hn hc
    refine ⟨fun hsus => stripCheck_lineFault (hline.trans (if_pos hsus)), fun hsus => ?_⟩
    have hcheck := stripCheck_line (rl := rl) (hline.trans (if_neg hsus))
    refine ⟨fun hnone => ?_, fun hsome hl => ?_⟩
    · rw [hcheck, lotCheck_unknown hnone]
    · have hlot := lotCheck_found (kind := ctx.kind) hsome hl
      refine ⟨fun hkind => ?_, fun hkind hret => ?_, fun hkind hret hcal => ?_, fun opens g left hkind hret hcal => ?_⟩
      · rw [hcheck, hlot, if_pos hkind]
      · rw [hcheck, hlot, if_neg (not_not.mpr hkind), if_pos hret]
      · rw [hcheck, hlot, if_neg (not_not.mpr hkind), if_neg hret]
        dsimp only
        rw [calCheck_notInForce hcal]
      · rw [hcheck, hlot, if_neg (not_not.mpr hkind), if_neg hret, hcal]
        dsimp only [calCheck]
        refine ⟨fun hgate => ?_, fun hgate => ?_⟩
        · rw [if_neg hgate]
        · rw [if_pos hgate]

end Sys2Proof.Machine
end

-- ==== The arithmetic of judgement (01 R9 to R15, 04 R83 to R85) ====
section
/-! PROOFS. The density search meets its real-valued definition, and the control values, bands and trend filters are as
their rules state. -/
namespace Sys2Proof.Machine

/-! ### Densities (R9) -/

/-- The comparison of whole numbers is the one of R9, both sides raised to the power 2000. -/
theorem roundsTo_iff {o n k : Nat} (hk : 1 ≤ k) (hn : 0 < n) :
    roundsTo o n k = true ↔ (10 : ℝ) ^ (((k : ℝ) - 1 / 2) / 1000) ≤ (o : ℝ) / n := by
  have hexp : ((10 : ℝ) ^ (((k : ℝ) - 1 / 2) / 1000)) ^ 2000 = (10 : ℝ) ^ (2 * k - 1) := by
    have hcast : (((k : ℝ) - 1 / 2) / 1000) * ((2000 : ℕ) : ℝ) = ((2 * k - 1 : ℕ) : ℝ) := by
      push_cast [Nat.cast_sub (show 1 ≤ 2 * k by omega)]
      ring
    rw [← Real.rpow_natCast, ← Real.rpow_mul (by norm_num), hcast, Real.rpow_natCast]
  have hn' : (0 : ℝ) < (n : ℝ) ^ 2000 := pow_pos (Nat.cast_pos.mpr hn) _
  rw [← pow_le_pow_iff_left₀ (Real.rpow_nonneg (by norm_num) _) (by positivity) (show 2000 ≠ 0 by norm_num), hexp, div_pow,
    le_div_iff₀ hn', roundsTo, decide_eq_true_eq]
  exact_mod_cast Iff.rfl

theorem pow_lt_scaled {o n e k : Nat} (hn : 0 < n) (ho : o ≤ 10 ^ 5) (hk : 5 * e < k) : o ^ e < 10 ^ k * n ^ e := by
  calc o ^ e ≤ (10 ^ 5) ^ e := Nat.pow_le_pow_left ho _
    _ = 10 ^ (5 * e) := (Nat.pow_mul ..).symm
    _ < 10 ^ k := Nat.pow_lt_pow_right (by decide) hk
    _ ≤ 10 ^ k * n ^ e := Nat.le_mul_of_pos_right _ (Nat.pow_pos hn)

theorem roundsTo_top {o n : Nat} (hn : 0 < n) (ho : o ≤ 65535) : roundsTo o n 8192 = false :=
  decide_eq_false (Nat.not_le.mpr (pow_lt_scaled hn (by omega) (by decide)))

/-- The search ends at the whole number of R9. -/
theorem rounded_eq {o n d : Nat} (hn : 0 < n) (ho : o ≤ 65535)
    (hlow : (10 : ℝ) ^ (((d : ℝ) - 1 / 2) / 1000) ≤ (o : ℝ) / n)
    (hhigh : (o : ℝ) / n < (10 : ℝ) ^ (((d : ℝ) + 1 / 2) / 1000)) : rounded o n = d := by
  obtain ⟨hreach, hstop⟩ := bisect_spec o n 13 0 8192 (by decide) (by decide) (.inl rfl) (roundsTo_top hn ho)
  have hnext : roundsTo o n (d + 1) = false := by
    refine Bool.eq_false_of_not_eq_true fun h => absurd ((roundsTo_iff (by omega) hn).mp h) (not_le.mpr ?_)
    have hcast : (((d + 1 : ℕ) : ℝ) - 1 / 2) / 1000 = ((d : ℝ) + 1 / 2) / 1000 := by push_cast; ring
    rw [hcast]; exact hhigh
  change rounded o n = 0 ∨ roundsTo o n (rounded o n) = true at hreach
  change roundsTo o n (rounded o n + 1) = false at hstop
  rcases Nat.lt_trichotomy (rounded o n) d with h | h | h
  · have hd := (roundsTo_iff (o := o) (show 1 ≤ d by omega) hn).mpr hlow
    rw [roundsTo_mono (by omega) h hd] at hstop; cases hstop
  · exact h
  · have hr := hreach.resolve_left (by omega)
    rw [roundsTo_mono (by omega) h hr] at hnext; cases hnext

theorem channelOf_eq (ch : Fin 3) (j : Fin 4) : channelOf ⟨4 * ch.val + j.val, by omega⟩ = ch := by
  apply Fin.ext
  simp only [channelOf]
  omega

/-- Settles O16: the channel of each reading, and the search's end as the density of R9. -/
theorem densityConversion : Obligations.DensityConversion := by
  refine ⟨fun opens counts ch j => ?_, fun o n hlow hhigh hn => ⟨fun hon => if_pos hon, fun hz => ?_, ?_⟩⟩
  · rw [convertAll, Table.get_ofFn, channelOf_eq]
  · have hnot : ¬ o ≤ n := by omega
    unfold convert
    rw [if_neg hnot, if_pos hz]
  · intro d hpos hno hreach hstop
    have hnot : ¬ o ≤ n := by omega
    have hne : ¬ n = 0 := by omega
    have hr := rounded_eq hpos hhigh hreach hstop
    unfold convert
    rw [if_neg hnot, if_neg hne, hr]
    exact ⟨fun h => if_pos h, fun h => if_neg (Nat.not_lt.mpr h)⟩

/-! ### Control values and deviations (R10 to R12) -/

theorem densityAt_get (rs : Table Reading 12) (i : Nat) (h : i < 12) :
    densityAt rs i = ((rs.get ⟨i, h⟩).density : Int) := dif_pos h

theorem controlValues_get (rs : Table Reading 12) (i : Nat) (h : i < 12) :
    (controlValues rs).get ⟨i, h⟩ =
      if i % 4 = 1 ∨ i % 4 = 2 then densityAt rs i - densityAt rs (i - 1) else densityAt rs i := Table.get_ofFn ..

theorem clamp_cases (lo hi i : Int) :
    (i < lo → clamp lo hi i = lo) ∧ (lo ≤ i → i ≤ hi → clamp lo hi i = i) ∧ (lo ≤ i → hi < i → clamp lo hi i = hi) := by
  unfold clamp
  refine ⟨fun h => if_pos h, fun h h' => ?_, fun h h' => ?_⟩
  · rw [if_neg (not_lt.mpr h), if_neg (not_lt.mpr h')]
  · rw [if_neg (not_lt.mpr h), if_pos h']

theorem doubtfulOf_iff (rs : Table Reading 12) :
    doubtfulOf rs = true ↔ ∃ i : Fin 12, i.val % 4 ≠ 3 ∧ (rs.get i).mark ≠ .unmarked := by
  simp [doubtfulOf, List.any_eq_true]

/-- Settles O17: each value by its place within its channel, the limits of a deviation, and the marks that count. -/
theorem controlValuesAndDeviations : Obligations.ControlValuesAndDeviations := by
  refine ⟨fun st l part => ⟨?_, ?_⟩, fun rs => ?_⟩
  · intro ch d v
    have hvalue : ∀ (j : Fin 4), v j = if (4 * ch.val + j.val) % 4 = 1 ∨ (4 * ch.val + j.val) % 4 = 2 then
        densityAt st.readings (4 * ch.val + j.val) - densityAt st.readings (4 * ch.val + j.val - 1)
        else densityAt st.readings (4 * ch.val + j.val) := fun j => controlValues_get _ _ _
    have hd : ∀ (j : Fin 4), densityAt st.readings (4 * ch.val + j.val) = d j := fun j => densityAt_get _ _ _
    refine ⟨?_, ?_, ?_, ?_⟩
    · rw [hvalue, if_neg (by simp only [Fin.val_zero]; omega), hd]
    · rw [hvalue, if_pos (.inl (by simp only [Fin.val_one]; omega)), hd, ← hd 0]; rfl
    · rw [hvalue, if_pos (.inr (by simp only [Fin.val_two]; omega)), hd, ← hd 1]; rfl
    · rw [hvalue, if_neg (by simp only [show (3 : Fin 4).val = 3 from rfl]; omega), hd]
  · intro v raw
    have hdev : (compute st l part).deviations.get v = clamp (-4000) 4000 raw := Table.get_ofFn ..
    obtain ⟨hlow, hmid, hhigh⟩ := clamp_cases (-4000) 4000 raw
    rw [hdev]
    exact ⟨hlow, hmid, fun h => hhigh (by omega) h⟩
  · rw [doubtfulOf_iff]
    constructor
    · rintro ⟨i, hi, hm⟩
      refine ⟨⟨i.val / 4, by omega⟩, ⟨i.val % 4, by omega⟩, ?_⟩
      have heq : (⟨4 * (i.val / 4) + i.val % 4, by omega⟩ : Fin 12) = i := Fin.ext (by simp only []; omega)
      rw [heq]; exact hm
    · rintro ⟨ch, j, hm⟩
      exact ⟨_, by simp only []; omega, hm⟩

/-! ### Verdicts (R13, R14) -/

theorem within_iff {lo hi x : Int} : within lo hi x = true ↔ lo ≤ x ∧ x ≤ hi := by
  simp [within]

theorem ValueAim.valid_order {a : ValueAim} (h : a.valid = true) :
    a.la < a.lw ∧ a.lw < 0 ∧ 0 < a.uw ∧ a.uw < a.ua := by
  simp only [ValueAim.valid, Bool.and_eq_true, decide_eq_true_eq, within_iff] at h
  omega

theorem side_iff (v : Verdict) :
    (v.side = some .high ↔ v = .warnHigh ∨ v = .actionHigh) ∧ (v.side = some .low ↔ v = .warnLow ∨ v = .actionLow) ∧
      (v.side = none ↔ v = .inside) := by
  cases v <;> simp [Verdict.side]

theorem band_cases {a : ValueAim} (hvalid : a.valid = true) (d : Int) :
    (a.ua ≤ d → band a d = .actionHigh) ∧ (a.uw ≤ d → d < a.ua → band a d = .warnHigh) ∧
    (a.lw < d → d < a.uw → band a d = .inside) ∧ (a.la < d → d ≤ a.lw → band a d = .warnLow) ∧
    (d ≤ a.la → band a d = .actionLow) := by
  obtain ⟨hlow, hneg, hpos, hhigh⟩ := ValueAim.valid_order hvalid
  unfold band
  refine ⟨fun h => if_pos h, fun h h' => ?_, fun h h' => ?_, fun h h' => ?_, fun h => ?_⟩
  · rw [if_neg (by omega), if_pos h]
  · rw [if_neg (by omega), if_neg (by omega), if_neg (by omega), if_neg (by omega)]
  · rw [if_neg (by omega), if_neg (by omega), if_neg (by omega), if_pos h']
  · rw [if_neg (by omega), if_neg (by omega), if_pos h]

/-- Settles O18: the bands are in order, since the limits of a valid value are. -/
theorem verdictBandsAndDirections : Obligations.VerdictBandsAndDirections := by
  refine ⟨?_, fun st l part => rfl⟩
  intro aims ds v hvalid a d verdict
  have hband : verdict = band a d := Table.get_ofFn ..
  obtain ⟨h1, h2, h3, h4, h5⟩ := band_cases hvalid d
  rw [hband]
  exact ⟨h1, h2, h3, h4, h5, side_iff _⟩

/-! ### Trend filters (R83, R84) -/

theorem satSucc_le {limit n : Nat} (h : n ≤ limit) : satSucc limit n ≤ limit := by
  unfold satSucc; split <;> omega

theorem runAfter_le {f : Filter} (h : f.runCount ≤ 9) (r : Int) : (runAfter f r).2 ≤ 9 := by
  have := satSucc_le h
  unfold runAfter
  repeat' split
  all_goals first | assumption | decide

theorem slopeAfter_le {f : Filter} (h : f.slopeCount ≤ 8) (r : Int) : (slopeAfter f r).2 ≤ 8 := by
  have := satSucc_le h
  unfold slopeAfter
  repeat' split
  all_goals first | assumption | decide

/-- Settles O19: the run and the slope by their own cases, and the filters of a finalised line by its point. -/
theorem trendFilterUpdate : Obligations.TrendFilterUpdate := by
  intro f r
  have hrun : (f.feed r).run = (runAfter f r).1 ∧ (f.feed r).runCount = (runAfter f r).2 := ⟨rfl, rfl⟩
  have hslope : (f.feed r).slope = (slopeAfter f r).1 ∧ (f.feed r).slopeCount = (slopeAfter f r).2 := ⟨rfl, rfl⟩
  rw [hrun.1, hrun.2, hslope.1, hslope.2]
  refine ⟨fun h hf => ?_, fun h hf => ?_, fun h hf => ?_, fun h hf => ?_, fun h => ?_, fun h => ?_, fun q h hq hf => ?_,
    fun q h hq hf => ?_, fun q h hq hf => ?_, fun q h hq hf => ?_, fun q h hq => ?_, rfl, fun _ => rfl, fun _ => rfl,
    fun h h' => ⟨runAfter_le h r, slopeAfter_le h' r⟩, fun c pt res fin shift v => ?_⟩
  · simp [runAfter, h, hf]
  · simp [runAfter, h, hf]
  · simp [runAfter, h, hf, Int.not_lt.mpr (Int.le_of_lt h)]
  · simp [runAfter, h, hf, Int.not_lt.mpr (Int.le_of_lt h)]
  · simp [runAfter, h]
  · simp [slopeAfter, h]
  · simp [slopeAfter, h, hq, hf]
  · simp [slopeAfter, h, hq, hf]
  · simp [slopeAfter, h, hq, hf, Int.not_lt.mpr (Int.le_of_lt hq)]
  · simp [slopeAfter, h, hq, hf, Int.not_lt.mpr (Int.le_of_lt hq)]
  · simp [slopeAfter, h, hq]
  · have hcounted : pt.counted = true ↔ pt.settling = false ∧ pt.doubtful = false := by simp [Point.counted]
    simp only [LineCtx.finalised, hcounted]
    split
    · exact Table.get_ofFn ..
    · rfl

end Sys2Proof.Machine
end

-- ==== Proofs: the take of a record ====
section
/-! PROOFS. The grant of a freed place, the take of the queue's head and its re-check (O13); the placement of a strip on
its line's chart and the alerts offered with it (O14, O15). -/
namespace Sys2Proof.Machine

/-! ### The grant -/

section
variable {s : State} {rl : Fin 4} {more : List (Fin 4)} {st : Strip}

theorem reply_eq (r : Reader) (x : Reply) :
    r.reply x = if r.sending = none then { r with sending := some ⟨.reply x, r.rate⟩ }
      else { r with waiting := r.waiting ++ [x] } := by
  unfold Reader.reply
  split
  · next h => exact (if_pos h).symm
  · next w h => exact (if_neg (by rw [h]; exact nofun)).symm

theorem grant_empty (h : s.heldOrder = []) : s.grant = s := by
  unfold State.grant
  rw [h]
  exact congrArg (fun o => { s with heldOrder := o }) h.symm

theorem grant_held (h : s.heldOrder = rl :: more) (hp : (s.reader rl).phase = .held st) :
    s.grant = if (s.reader rl).cal.inForce then { s.appendStrip rl st with heldOrder := more }
      else grantTo more (s.nakFrame rl .uncalibrated (some st.lab)) := by
  unfold State.grant
  rw [h, grantTo, hp]

/-- The reader of a failing frame, its fault record written before the reply. -/
theorem nakFrame_reader (s : State) (rl : Fin 4) (c : Nak) (lab : Option Nat) :
    s.nakFrame rl c lab = { s.setReader rl ({ s.reader rl with
        phase := .hunt
        fault := ⟨some (.nak c), some .frame, lab, some s.day.number, satSucc 255 (s.reader rl).fault.count⟩ }.reply
          (.nak c)) with
      mp0 := { s.mp0 with readerFlag := true }, mp1 := { s.mp1 with readerFlag := true } } := by
  simp only [State.nakFrame, State.chargeFault, State.setReader_reader_self, setReader_setReader, reply_eq]
  split
  · rfl
  · rfl

theorem grant_refused (h : s.heldOrder = rl :: more) (hp : (s.reader rl).phase = .held st)
    (hcal : (s.reader rl).cal.inForce = false) :
    s.grant = State.grant { s.nakFrame rl .uncalibrated (some st.lab) with heldOrder := more } := by
  rw [grant_held h hp, hcal, if_neg (by decide)]
  exact (grantTo_heldOrder more (s.nakFrame rl .uncalibrated (some st.lab)) more).symm

theorem inForce_false {cal : Calibration} (h : ∀ opens g left, cal ≠ .valid opens g left) : cal.inForce = false := by
  cases cal with
  | uncalibrated => rfl
  | spent opens g => rfl
  | valid opens g left => exact absurd rfl (h opens g left)

end

/-! ### The take -/

theorem recheck_eq (s : State) (st : Strip) : recheck s st =
    match s.line st.line, s.lot st.slot with
    | none, _ => .error .lineGone
    | some c, o =>
      if c.lab ≠ st.lab ∨ c.kind ≠ st.kind then .error .lineGone
      else if c.state = .suspended then .error (.nak .suspended)
      else match o with
        | none => .error .lotGone
        | some l =>
          if l.code ≠ st.code ∨ l.kind ≠ st.kind then .error .lotGone
          else if l.state = .retired then .error (.nak .lotRetired) else .ok (c, l) := by
  unfold recheck
  cases s.line st.line with
  | none => rfl
  | some c =>
    cases s.lot st.slot with
    | none => rfl
    | some l => rfl

section
variable {s : State} {rec : StripRecord} {rest : List StripRecord}

theorem exec_evaluationTake (s : State) : exec .evaluationTake s = .next (
    if s.takes then
      match s.queue with
      | [] => s
      | rec :: rest =>
        if s.day.state = .draining then ({ s with drain := s.drain - 1 }.takeRecord rec rest).endDrain
        else s.takeRecord rec rest
    else s) := rfl

theorem exec_take_open (hq : s.queue = rec :: rest) (hd : s.day.state = .dayOpen) :
    exec .evaluationTake s = .next (s.takeRecord rec rest) := by
  have htakes : s.takes = true := by simp [State.takes, hd, hq]
  rw [exec_evaluationTake, if_pos htakes, hq, hd]
  rfl

theorem exec_take_draining (hq : s.queue = rec :: rest) (hd : s.day.state = .draining) (hpos : 0 < s.drain) :
    exec .evaluationTake s = .next ({ s with drain := s.drain - 1 }.takeRecord rec rest).endDrain := by
  have htakes : s.takes = true := by simp [State.takes, hd, hpos]
  rw [exec_evaluationTake, if_pos htakes, hq]
  exact congrArg Host.Outcome.next (if_pos hd)

theorem exec_take_none (h : (∃ pos, s.day.state = .closing pos) ∨ s.day.state = .transferWait ∨ s.queue = []) :
    exec .evaluationTake s = .next s := by
  rw [exec_evaluationTake]
  rcases h with ⟨pos, h⟩ | h | h
  · rw [if_neg (by simp [State.takes, h])]
  · rw [if_neg (by simp [State.takes, h])]
  · rw [h]
    exact congrArg Host.Outcome.next (ite_self s)

theorem chargeFault_eq (s : State) (rl : Fin 4) (code : FaultCode) (origin : Origin) (lab : Option Nat) :
    s.chargeFault rl code origin lab = { s.setReader rl { s.reader rl with
        fault := ⟨some code, some origin, lab, some s.day.number, satSucc 255 (s.reader rl).fault.count⟩ } with
      mp0 := { s.mp0 with readerFlag := true }, mp1 := { s.mp1 with readerFlag := true } } := rfl

/-- The evaluation of a record after the grant reads the tables and the day of before it. -/
theorem takeRecord_eq (s : State) (rec : StripRecord) (rest : List StripRecord) :
    let t := State.grant { s with queue := rest }
    s.takeRecord rec rest = match recheck s rec.strip with
      | .ok (c, l) => t.place rec c l
      | .error code => { t.setReader rec.strip.reader { t.reader rec.strip.reader with
            fault := ⟨some code, some .evaluation, some rec.strip.lab, some s.day.number,
              satSucc 255 (t.reader rec.strip.reader).fault.count⟩ } with
          mp0 := { t.mp0 with readerFlag := true }, mp1 := { t.mp1 with readerFlag := true } } := by
  intro t
  obtain ⟨_, _, hlines, _, hlots, hday, _⟩ := grantTo_frame s.heldOrder { s with queue := rest }
  have hrecheck : recheck t rec.strip = recheck s rec.strip := recheck_congr rec.strip hlines hlots
  have hnumber : t.day.number = s.day.number := congrArg DayUnit.number hday
  show t.evaluate rec = _
  unfold State.evaluate
  rw [hrecheck]
  split
  · next h => rw [chargeFault_eq, hnumber, h]
  · next h => rw [h]

theorem endDrain_zero (h : s.drain = 0) : s.endDrain = s.setDay { s.day with state := .closing (.consensus 0) } := if_pos h

theorem endDrain_pos (h : s.drain ≠ 0) : s.endDrain = s := if_neg h
end

/-- Settles O13: the grant by the calibration of the frame held longest, the take by the day state, the drain count read
after the take. -/
theorem evaluationTake : Obligations.EvaluationTake := by
  unfold Obligations.EvaluationTake
  refine ⟨fun s h => grant_empty h, fun s rl more st h hp => ?_, fun s rec rest hq => ?_, fun s h => exec_take_none h⟩
  · refine ⟨fun opens g left hcal => ?_, fun hcal => ?_⟩
    · rw [grant_held h hp, hcal, if_pos (by rfl), State.appendStrip, reply_eq, hcal]
      rfl
    · rw [grant_refused h hp (inForce_false hcal), nakFrame_reader, reply_eq]
      rfl
  · refine ⟨fun hd => ?_, fun hd hmany => ?_, fun hd hone => ?_, recheck_eq s rec.strip⟩
    · rw [exec_take_open hq hd, takeRecord_eq]
      rfl
    · have hleft : (State.takeRecord { s with drain := s.drain - 1 } rec rest).drain ≠ 0 := by
        rw [takeRecord_drain]
        exact Nat.sub_ne_zero_of_lt hmany
      rw [exec_take_draining hq hd (by omega), endDrain_pos hleft, takeRecord_eq]
      rfl
    · have hleft : (State.takeRecord { s with drain := s.drain - 1 } rec rest).drain = 0 := by
        rw [takeRecord_drain, hone]
      have hzero : ({ s with drain := s.drain - 1 } : State) = { s with drain := 0 } := by rw [hone]
      rw [exec_take_draining hq hd (by omega), endDrain_zero hleft, takeRecord_desk, hzero, takeRecord_eq]
      rfl

end Sys2Proof.Machine
end

-- ==== Proofs: the placement of a strip ====
section
/-! PROOFS. The first strip of a day (O14) and the later ones (O15): the line after the placement and the offers made. -/
namespace Sys2Proof.Machine

section
variable {c : LineCtx} {rec : StripRecord} {part : AimPart} {x : Computed} {pt : Point} {before after : List Point}

/-! ### The placement case -/

theorem placementOf_new (h : ∀ q ∈ c.ring, q.day ≠ rec.day) : placementOf c.ring rec = .newPoint := by
  unfold placementOf
  rw [ringAt_none h]

theorem ringAt_only (hr : c.ring = before ++ pt :: after) (hd : pt.day = rec.day)
    (ho : ∀ q ∈ before ++ after, q.day ≠ rec.day) : ringAt c.ring rec.day = some pt := by
  rw [hr, ← hd]
  exact ringAt_mid fun q hq => hd ▸ ho q (List.mem_append_left _ hq)

theorem placementOf_rerun (h : ringAt c.ring rec.day = some pt) (hs : pt.state = .provisional)
    (hc : pt.code = rec.strip.code) : placementOf c.ring rec = .rerun pt := by
  unfold placementOf
  simp only [h, hs]
  exact if_pos hc

theorem placementOf_crossover (h : ringAt c.ring rec.day = some pt) (hs : pt.state = .provisional)
    (hc : pt.code ≠ rec.strip.code) : placementOf c.ring rec = .crossover pt := by
  unfold placementOf
  simp only [h, hs]
  exact if_neg hc

theorem placementOf_void (h : ringAt c.ring rec.day = some pt) (hs : pt.state = .void) :
    placementOf c.ring rec = .voidDay := by
  unfold placementOf
  simp only [h, hs]

/-! ### The line after the placement -/

theorem placed_new (h : placementOf c.ring rec = .newPoint) : placed c rec part x = { c with
    state := if c.state = .overdue then .active else c.state
    missed := 0
    epochPoints := satSucc 255 c.epochPoints
    ring := ringAppend c.ring (newPoint rec c part x) } := by
  unfold placed
  rw [h]
  rfl

/-- A strip of a day with a point changes the ring and what every strip changes (R57). -/
theorem placed_later (h : ringAt c.ring rec.day = some pt) :
    placed c rec part x = { c with
      state := if c.state = .overdue then .active else c.state, missed := 0, ring := (placed c rec part x).ring } := by
  have hcase : placementOf c.ring rec ≠ .newPoint := by
    unfold placementOf
    rw [h]
    dsimp only
    split
    · split <;> exact nofun
    · exact nofun
    · exact nofun
  unfold placed
  split
  · next hnew => exact absurd hnew hcase
  · rfl
  · rfl
  · rfl

theorem placed_rerun (h : placementOf c.ring rec = .rerun pt) :
    (placed c rec part x).ring = ringReplace c.ring (rerunPoint pt rec x) := by
  unfold placed
  rw [h]

theorem placed_crossover (h : placementOf c.ring rec = .crossover pt) :
    (placed c rec part x).ring = ringReplace c.ring { pt with cross := some (crossPart pt rec x) } := by
  unfold placed
  rw [h]

theorem placed_void (h : placementOf c.ring rec = .voidDay) : (placed c rec part x).ring = c.ring := by
  unfold placed
  rw [h]
  rfl

theorem rerunPoint_eq (pt : Point) (rec : StripRecord) (x : Computed) : rerunPoint pt rec x = { pt with
    head := rec.strip.reader, slot := rec.strip.slot, doubtful := doubtfulOf rec.strip.readings
    reruns := satSucc 7 pt.reruns
    readings := rec.strip.readings, values := x.values, deviations := x.deviations, verdicts := x.verdicts
    first := some (pt.first.getD ⟨pt.readings, pt.values⟩) } := by
  unfold rerunPoint
  cases pt.first <;> rfl
end

/-! ### The offers -/

theorem newOffer_eq (n : Fin 96) (day : Nat) (x : Computed) (v : Fin 12) :
    let offer := fun (kind : AlertKind) => some (⟨⟨.line n, some v⟩, kind, day, some (x.deviations.get v)⟩ : Offer)
    newOffer n day x v = match x.verdicts.get v with
      | .inside => none
      | .warnHigh => offer .warn
      | .warnLow => offer .warn
      | .actionHigh => offer .action
      | .actionLow => offer .action := by
  unfold newOffer
  cases x.verdicts.get v <;> rfl

theorem rerunOffer_eq (n : Fin 96) (day : Nat) (old : Table Verdict 12) (x : Computed) (v : Fin 12) :
    let offer := fun (kind : AlertKind) => some (⟨⟨.line n, some v⟩, kind, day, some (x.deviations.get v)⟩ : Offer)
    rerunOffer n day old x v = match x.verdicts.get v with
      | .actionHigh => offer .action
      | .actionLow => offer .action
      | .warnHigh => offer .warn
      | .warnLow => offer .warn
      | .inside => if old.get v = .inside then none else offer .recovered := by
  unfold rerunOffer
  cases x.verdicts.get v <;> rfl

theorem foldl_magnitude_le (n : Nat) : ∀ (is : List Int) (m : Nat),
    is.foldl (fun m i => max m i.natAbs) m ≤ n ↔ m ≤ n ∧ ∀ i ∈ is, i.natAbs ≤ n
  | [], m => by simp
  | i :: is, m => by simp [foldl_magnitude_le n is, and_assoc]

theorem largestMagnitude_le {t : Table Int 12} {n : Nat} : largestMagnitude t ≤ n ↔ ∀ v, (t.get v).natAbs ≤ n := by
  unfold largestMagnitude
  rw [foldl_magnitude_le]
  simp [Table.mem_cells]

theorem largestMagnitude_eq {t : Table Int 12} {n : Nat} (hmem : ∃ v, (t.get v).natAbs = n)
    (hle : ∀ v, (t.get v).natAbs ≤ n) : largestMagnitude t = n := by
  obtain ⟨v, hv⟩ := hmem
  exact Nat.le_antisymm (largestMagnitude_le.mpr hle) (hv ▸ largestMagnitude_le.mp le_rfl v)

/-! ### The statements -/

/-- Settles O14: the placement case is the new point. -/
theorem newPointPlacement : Obligations.NewPointPlacement := by
  intro s rec c l hc hday
  have hcase := placementOf_new hday
  intro x offer
  have hoffers : takeOffers c rec x s.day.desk.tolerance =
      (List.finRange 12).filterMap (newOffer rec.strip.line rec.day x) := by
    unfold takeOffers
    rw [hcase]
  unfold State.place
  refine (congrArg₂ (fun c' os => (s.setLine rec.strip.line (some c')).offerAll os) (placed_new hcase) hoffers).trans ?_
  exact congrArg (State.offerAll _) (List.filterMap_congr fun v _ => newOffer_eq ..)

/-- Settles O15: each placement case's ring and offers. -/
theorem laterStripsOfADay : Obligations.LaterStripsOfADay := by
  refine ⟨fun c rec part x pt before after hr hd ho => ?_, fun s rec c l pt before after hc hr hd ho => ?_⟩
  · have hat := ringAt_only hr hd ho
    have hlater := placed_later (part := part) (x := x) hat
    have hreplace : ∀ q : Point, q.day = pt.day → ringReplace c.ring q = before ++ q :: after := fun q hq => by
      rw [hr]
      exact ringReplace_mid hq fun y hy => hd ▸ ho y hy
    refine ⟨?_, ?_, ?_, ?_, ?_, ?_, ?_, ?_, ?_, ?_, fun hs hcode => ?_, fun hs hcode => ?_, fun hs => ?_⟩
    iterate 10 rw [hlater]
    · rw [placed_rerun (placementOf_rerun hat hs hcode), rerunPoint_eq]
      exact hreplace _ rfl
    · rw [placed_crossover (placementOf_crossover hat hs hcode)]
      exact hreplace _ rfl
    · exact placed_void (placementOf_void hat hs)
  · have hat := ringAt_only hr hd ho
    intro x offering offer
    have hplace : ∀ os, takeOffers c rec x s.day.desk.tolerance = os → offering os := fun os h => h ▸ rfl
    refine ⟨fun hs hcode => hplace _ ?_, fun hs hcode largest hmem hle => hplace _ ?_, fun hs => hplace _ ?_⟩
    · unfold takeOffers
      rw [placementOf_rerun hat hs hcode]
      exact List.filterMap_congr fun v _ => rerunOffer_eq ..
    · have hlargest : largestMagnitude (crossPart pt rec x).differences = largest :=
        largestMagnitude_eq (hmem.imp fun v hv => by simpa [crossPart] using hv)
          (fun v => by simpa [crossPart] using hle v)
      unfold takeOffers crossOffer
      simp only [placementOf_crossover hat hs hcode, hlargest]
    · unfold takeOffers
      rw [placementOf_void hat hs]

end Sys2Proof.Machine
end

-- ==== Proofs: the outcome of a command ====
section
/-! PROOFS. What the event of a management command comes to, by the step of R159 at which the command ends. -/
namespace Sys2Proof.Machine

section
variable {α : Type} {i : Instr} {c : Command} {p : Port} {s : State} {parse : List Byte → Except Status α}
  {item : α → Option Item} {act : α → State → Answer} {params : List Byte} {a : α} {st : Status}

theorem command_refuses (hrow : exec i s = .next (runCommand c p s parse item act)) (hx : s.executes p c params)
    (hl : params.length = c.paramLen) (hp : parse params = .ok a) (hok : s.permits p c (item a))
    (hact : act a s = .refuse st) : exec i s = .next (s.answer p c.code st []) := by
  rw [hrow, runCommand_go hx hl hp hok, hact]

theorem command_done {t : State} {data : List Byte} (hrow : exec i s = .next (runCommand c p s parse item act))
    (hx : s.executes p c params) (hl : params.length = c.paramLen) (hp : parse params = .ok a)
    (hok : s.permits p c (item a)) (hact : act a s = .done t st data) :
    exec i s = .next (t.answer p c.code st data) := by
  rw [hrow, runCommand_go hx hl hp hok, hact]

theorem command_parse (hrow : exec i s = .next (runCommand c p s parse item act)) (hx : s.executes p c params)
    (hl : params.length = c.paramLen) (hp : parse params = .error st) :
    exec i s = .next (s.answer p c.code st []) := by
  rw [hrow, runCommand_parse hx hl hp]

theorem command_common (hrow : exec i s = .next (runCommand c p s parse item act)) (hx : s.executes p c params)
    (hl : params.length = c.paramLen) (hp : parse params = .ok a) (hc : commonRefusal s p c (item a) = some st) :
    exec i s = .next (s.answer p c.code st []) := by
  rw [hrow, runCommand_common hx hl hp hc]
end

end Sys2Proof.Machine
end

-- ==== Proofs: close requests ====
section
/-! PROOFS. CLOSE-DAY (O20) and the other sources of a close request, with the day timer (O21). -/
namespace Sys2Proof.Machine

section
variable {d : DayUnit}

theorem early_iff : d.early = true ↔ d.firstClose = false ∧ d.timer * 100 < d.desk.length * (100 - d.desk.window) := by
  simp [DayUnit.early]

theorem accepts_iff : d.accepts = true ↔ d.state = .dayOpen ∧ d.number < 65535 := by
  simp only [DayUnit.accepts, Bool.and_eq_true, decide_eq_true_eq]
  exact Iff.rfl
end

/-- Settles O20: the four checks of R121 in order. -/
theorem closeDayCommand : Obligations.CloseDayCommand := by
  intro p s hx hok d early
  have hearly : s.day.early = true ↔ early := early_iff
  refine ⟨fun hf => ?_, fun hf hs => ?_, fun hf hs hn => ?_, fun hf hs hn he => ?_, fun hf hs hn he => ?_⟩
  · exact command_refuses rfl hx rfl rfl hok (if_pos hf)
  · exact command_refuses rfl hx rfl rfl hok ((if_neg hf).trans (if_pos hs))
  · exact command_refuses rfl hx rfl rfl hok ((if_neg hf).trans ((if_neg (not_not.mpr hs)).trans (if_pos hn)))
  · exact command_refuses rfl hx rfl rfl hok ((if_neg hf).trans ((if_neg (not_not.mpr hs)).trans
      ((if_neg (Nat.not_le.mpr hn)).trans (if_pos (hearly.mpr he)))))
  · exact command_done rfl hx rfl rfl hok ((if_neg hf).trans ((if_neg (not_not.mpr hs)).trans
      ((if_neg (Nat.not_le.mpr hn)).trans (if_neg (mt hearly.mp he)))))

section
variable {s : State}

theorem exec_closeInEdge (s : State) : exec .closeInEdge s = .next (
    if s.day.desk.mode = .follower then
      if s.day.accepts then s.takeRequest .edge else s.setDay { s.day with missedEdge := true }
    else s) := rfl

theorem exec_dayTimerTick (s : State) : exec .dayTimerTick s = .next (
    if !s.store.loading && decide (s.day.number < Config.lastDay) && decide (s.day.timer < s.day.desk.length) then
      s.setDay { s.day with timer := s.day.timer + 1 }
    else s) := rfl

theorem exec_dayTimerExpiry (s : State) : exec .dayTimerExpiry s = .next (
    if decide (s.day.desk.length ≤ s.day.timer) && s.day.accepts then s.takeRequest .expiry else s) := rfl
end

/-- Settles O21: each event by its own condition. -/
theorem edgesTicksAndExpiry : Obligations.EdgesTicksAndExpiry := by
  intro s d taken
  refine ⟨fun hm => ?_, fun hm hs hn => ?_, fun hm hno => ?_, fun hl hn ht => ?_, fun hno => ?_, fun ht hs hn => ?_,
    fun hno => ?_, rfl⟩
  · rw [exec_closeInEdge, if_neg hm]
  · rw [exec_closeInEdge, if_pos hm, if_pos (accepts_iff.mpr ⟨hs, hn⟩)]
    rfl
  · rw [exec_closeInEdge, if_pos hm, if_neg (fun h => ?_)]
    obtain ⟨hs, hn⟩ := accepts_iff.mp h
    exact hno.elim (fun h => h hs) (Nat.not_le.mpr hn)
  · rw [exec_dayTimerTick, if_pos]
    have hday : s.day.number < Config.lastDay := hn
    have htimer : s.day.timer < s.day.desk.length := ht
    simp [hl, hday, htimer]
  · rw [exec_dayTimerTick, if_neg]
    simp only [Bool.and_eq_true, Bool.not_eq_true', decide_eq_true_eq, not_and, not_lt]
    rintro ⟨hl, hn⟩
    rcases hno with h | h | h
    · exact absurd h (hl ▸ nofun)
    · exact absurd hn (Nat.not_lt.mpr h)
    · exact h
  · rw [exec_dayTimerExpiry, if_pos (Bool.and_eq_true_iff.mpr ⟨decide_eq_true ht, accepts_iff.mpr ⟨hs, hn⟩⟩)]
    rfl
  · rw [exec_dayTimerExpiry, if_neg]
    intro h
    obtain ⟨ht, hacc⟩ := Bool.and_eq_true_iff.mp h
    obtain ⟨hs, hn⟩ := accepts_iff.mp hacc
    rcases hno with h | h | h
    · exact absurd (of_decide_eq_true ht) (Nat.not_le.mpr h)
    · exact h hs
    · exact absurd hn (Nat.not_lt.mpr h)

end Sys2Proof.Machine
end

-- ==== Proofs: the consensus step ====
section
/-! PROOFS. The consensus step of a slot (O22): its participants, the shifts it declares, the record and the proposal it
leaves and the offers it makes. -/
namespace Sys2Proof.Machine

/-! ### The participants -/

theorem participates_iff {c : LineCtx} {q : Point} {k : Fin 16} {l : Lot} : participates c q k l = true ↔
    q.state = .provisional ∧ q.slot = k ∧ q.code = l.code ∧ c.kind = l.kind ∧ q.settling = false ∧ q.doubtful = false := by
  simp [participates, belongs, and_assoc]

theorem participants_eq (s : State) (k : Fin 16) (l : Lot) :
    s.participants k l = (List.finRange 96).filterMap fun n => (s.line n).bind fun (c : LineCtx) =>
      (c.ring.find? fun (q : Point) => decide (q.day = s.day.closingDay)).filter fun (q : Point) =>
        decide (q.state = .provisional ∧ q.slot = k ∧ q.code = l.code ∧ c.kind = l.kind ∧ q.settling = false ∧
          q.doubtful = false) := by
  unfold State.participants
  refine List.filterMap_congr fun n _ => ?_
  cases s.line n with
  | none => rfl
  | some c =>
    have hat : ringAt c.ring s.day.closingDay = c.ring.find? fun q => decide (q.day = s.day.closingDay) := rfl
    simp only [Option.bind_some, hat]
    cases c.ring.find? fun q => decide (q.day = s.day.closingDay) with
    | none => rfl
    | some q => simp [Option.filter, ← participates_iff]

/-! ### The shifts -/

theorem onSide_high (pts : List Point) (v : Fin 12) : onSide pts v .high =
    pts.filter fun (q : Point) => decide (q.verdicts.get v = .warnHigh ∨ q.verdicts.get v = .actionHigh) :=
  List.filter_congr fun _ _ => decide_eq_decide.mpr (side_iff _).1

theorem onSide_low (pts : List Point) (v : Fin 12) : onSide pts v .low =
    pts.filter fun (q : Point) => decide (q.verdicts.get v = .warnLow ∨ q.verdicts.get v = .actionLow) :=
  List.filter_congr fun _ _ => decide_eq_decide.mpr (side_iff _).2.1

section
variable {desk : Desk} {pts : List Point} {v : Fin 12} {m : Int}

theorem declared_high_iff : declared desk pts v = some ⟨.high, m⟩ ↔ desk.quorum ≤ pts.length ∧
    desk.share * pts.length ≤ (onSide pts v .high).length * 100 ∧
    (onSide pts v .low).length * 100 < desk.share * pts.length ∧ m = meanDeviation (onSide pts v .high) v := by
  unfold declared
  grind

theorem declared_low_iff : declared desk pts v = some ⟨.low, m⟩ ↔ desk.quorum ≤ pts.length ∧
    desk.share * pts.length ≤ (onSide pts v .low).length * 100 ∧
    (onSide pts v .high).length * 100 < desk.share * pts.length ∧ m = meanDeviation (onSide pts v .low) v := by
  unfold declared
  grind

/-- Without participants no shift is declared, whatever the quorum (R128). -/
theorem declared_nil (desk : Desk) (v : Fin 12) : declared desk [] v = none := by
  simp [declared, onSide]
end

/-! ### The slot after the step -/

theorem clamp_eq (lo hi i : Int) (h : lo ≤ hi) : clamp lo hi i = max lo (min hi i) := by
  unfold clamp
  omega

theorem proposalAfter_eq (desk : Desk) (pts : List Point) (l : Lot) : proposalAfter desk pts l =
    if (List.finRange 12).all fun v => (declared desk pts v).isNone then l.proposal
    else some (Table.ofFn fun v =>
      match declared desk pts v with
      | some x => some (max (-500) (min 500 (l.active.get v + x.magnitude)))
      | none => l.proposal.bind fun q => q.get v) := by
  have hkeeps : ∀ v, (l.proposal.getD (Table.fill 12 none)).get v = l.proposal.bind fun q => q.get v := fun v => by
    cases l.proposal with
    | none => exact Table.get_fill ..
    | some q => rfl
  have hany : ((List.finRange 12).any fun v => (declared desk pts v).isSome) =
      !(List.finRange 12).all fun v => (declared desk pts v).isNone := by
    simp [List.not_all_eq_any_not]
  unfold proposalAfter
  simp only [hany, hkeeps, clamp_eq (-500) 500 _ (by decide)]
  cases (List.finRange 12).all fun v => (declared desk pts v).isNone <;> rfl

section
variable {s : State} {k : Fin 16} {l : Lot}

theorem exec_consensusStep (h : s.day.state = .closing (.consensus k)) :
    exec .consensusStep s = .next ((s.consensus k).advance (.consensus k)) := by
  have hrow : exec .consensusStep s = .next (
    match s.day.state with
    | .closing (.consensus k) => (s.consensus k).advance (.consensus k)
    | _ => s) := rfl
  rw [hrow, h]

theorem consensus_next {next : DayState} (hlast : k.val = 15 → next = .closing (.finalisation 0))
    (hmore : ∀ h : k.val + 1 < 16, next = .closing (.consensus ⟨k.val + 1, h⟩)) : stateAfter (.consensus k) = next := by
  by_cases h : k.val + 1 < 16
  · simp only [stateAfter, nextItem_more h, hmore h]
  · simp only [stateAfter, nextItem_last (show k.val + 1 = 16 by omega), hlast (by omega)]

theorem consensus_some (hl : s.lot k = some l) :
    s.consensus k = ((s.setLot k (some (l.afterConsensus s.day.desk s.day.closingDay (s.participants k l)))).offerAll
      ((List.finRange 12).filterMap (driftOffer k s.day.desk s.day.closingDay (s.participants k l)))).setDay
      { s.day with tally := { s.day.tally with
          shifts := s.day.tally.shifts + shiftCount s.day.desk (s.participants k l) } } := by
  unfold State.consensus
  rw [hl]
  simp only [State.offerAll_day]
  rfl

theorem setLot_same (hl : s.lot k = some l) : s.setLot k (some l) = s := by
  rw [← hl]
  exact congrArg (fun t => { s with lots := t }) (Table.set_get s.lots k)

theorem consensus_noPoints (hl : s.lot k = some l) (hp : s.participants k l = []) : s.consensus k = s := by
  have hcount : shiftCount s.day.desk [] = 0 := by simp [shiftCount, declared_nil]
  have hoffers : (List.finRange 12).filterMap (driftOffer k s.day.desk s.day.closingDay []) = [] := by
    simp [driftOffer, declared_nil]
  have hafter : l.afterConsensus s.day.desk s.day.closingDay [] = l := by
    simp [Lot.afterConsensus, proposalAfter, declared_nil]
  rw [consensus_some hl, hp, hcount, hoffers, hafter, setLot_same hl]
  rfl
end

/-- Settles O22: the participants are those of R128 and the shifts those of R129. -/
theorem consensusStep : Obligations.ConsensusStep := by
  intro s k next hst hlast hmore
  have hafter := consensus_next hlast hmore
  refine ⟨fun hl => ?_, fun l hl => ?_⟩
  · have hstill : s.consensus k = s := by
      unfold State.consensus
      rw [hl]
    rw [exec_consensusStep hst, hstill, State.advance, hafter]
  · intro pts shift high low need mean
    have hpts : s.participants k l = pts := participants_eq s k l
    refine ⟨fun v m => ⟨?_, ?_⟩, fun hnil => ?_, fun hsome => ?_⟩
    · have h := declared_high_iff (desk := s.day.desk) (pts := pts) (v := v) (m := m)
      rw [onSide_high, onSide_low] at h
      exact h
    · have h := declared_low_iff (desk := s.day.desk) (pts := pts) (v := v) (m := m)
      rw [onSide_high, onSide_low] at h
      exact h
    · rw [exec_consensusStep hst, consensus_noPoints hl (hpts.trans hnil), State.advance, hafter]
    · refine ⟨shiftRecord s.day.desk s.day.closingDay pts, rfl, fun v => ?_, ?_⟩
      · rw [shiftRecord, Table.get_ofFn]
        refine ⟨rfl, rfl, ?_⟩
        unfold agreeing
        rw [onSide_high, onSide_low] <;> rfl
      · have hempty : pts.isEmpty = false := by simpa using hsome
        rw [exec_consensusStep hst, consensus_some hl, hpts, State.advance, hafter, Lot.afterConsensus, proposalAfter_eq,
          hempty]
        rfl

end Sys2Proof.Machine
end

-- ==== Proofs: the finalisation step ====
section
/-! PROOFS. The finalisation step of a line (O23): the shift its point takes, the line after it and the offers made. -/
namespace Sys2Proof.Machine

section
variable {s : State} {n : Fin 96} {c : LineCtx} {pt : Point}

theorem exec_finalisationStep (h : s.day.state = .closing (.finalisation n)) :
    exec .finalisationStep s = .next ((s.finalise n).advance (.finalisation n)) := by
  have hrow : exec .finalisationStep s = .next (
    match s.day.state with
    | .closing (.finalisation n) => (s.finalise n).advance (.finalisation n)
    | _ => s) := rfl
  rw [hrow, h]

theorem finalisation_next {next : DayState} (hlast : n.val = 95 → next = .closing (.overdue 0))
    (hmore : ∀ h : n.val + 1 < 96, next = .closing (.finalisation ⟨n.val + 1, h⟩)) :
    stateAfter (.finalisation n) = next := by
  by_cases h : n.val + 1 < 96
  · simp only [stateAfter, nextItem_more h, hmore h]
  · simp only [stateAfter, nextItem_last (show n.val + 1 = 96 by omega), hlast (by omega)]

theorem finalise_none (h : s.line n = none) : s.finalise n = s := by
  unfold State.finalise
  rw [h]

theorem finalise_passes (h : s.line n = some c) (hno : ∀ q ∈ c.ring, q.day = s.day.closingDay → q.state ≠ .provisional) :
    s.finalise n = s := by
  unfold State.finalise
  rw [h]
  dsimp only
  split
  · rfl
  · next q hq =>
    obtain ⟨hmem, hday⟩ := ringAt_some hq
    exact if_neg (hno q hmem hday)

theorem finalise_point (h : s.line n = some c) (hat : ringAt c.ring s.day.closingDay = some pt)
    (hp : pt.state = .provisional) : s.finalise n = s.finalisePoint n c pt := by
  unfold State.finalise
  rw [h]
  dsimp only
  rw [hat]
  exact if_pos hp

/-! ### What a finalised point takes and offers -/

theorem appliedShift_iff {lot : Option Lot} {day : Nat} {v : Fin 12} {m : Int} :
    appliedShift lot c pt day v = some m ↔ ∃ l r x, lot = some l ∧ pt.code = l.code ∧ c.kind = l.kind ∧
      l.shift = some r ∧ r.day = day ∧ (r.entries.get v).shift = some x ∧ (pt.verdicts.get v).side = some x.side ∧
      x.magnitude = m := by
  unfold appliedShift
  cases lot with
  | none => simp
  | some l =>
    cases hr : l.shift with
    | none => simp [hr]
    | some r =>
      cases hx : (r.entries.get v).shift with
      | none => simp [hr, hx]
      | some x => simp [hr, hx, belongs, and_assoc]

theorem warnPairs_iff (memory : Option Verdict) (final : Verdict) : warnPairs memory final = true ↔
    (final = .warnHigh ∧ (memory = some .warnHigh ∨ memory = some .actionHigh)) ∨
    (final = .warnLow ∧ (memory = some .warnLow ∨ memory = some .actionLow)) := by
  unfold warnPairs
  cases final with
  | inside | actionHigh | actionLow => simp [Verdict.isWarn]
  | warnHigh | warnLow =>
    cases memory with
    | none => simp
    | some w => cases w <;> simp [Verdict.isWarn, Verdict.side]

theorem indicates_iff {part : AimPart} {f g : Filter} : indicates part f g = true ↔
    (f.runCount < part.run ∧ g.runCount = part.run) ∨ (f.slopeCount < part.slope ∧ g.slopeCount = part.slope) := by
  simp [indicates]

theorem counted_iff : pt.counted = true ↔ pt.settling = false ∧ pt.doubtful = false := by simp [Point.counted]

section
variable {day : Nat} {part : AimPart} {res : Table Int 12} {fin : Table Verdict 12} {shift : Fin 12 → Option Int}

theorem finalOffer_eq {v : Fin 12} {P Q : Prop} [Decidable P] [Decidable Q]
    (hP : P ↔ (pt.counted = true ∧ warnPairs (c.warn.get v) (fin.get v) = true))
    (hQ : Q ↔ (pt.counted = true ∧ indicates part (c.filters.get v) ((c.filters.get v).feed (res.get v)) = true)) :
    finalOffer n day c pt part res fin shift v =
      if P then some ⟨⟨.line n, some v⟩, .warnPair, day, some (res.get v)⟩
      else if Q then some ⟨⟨.line n, some v⟩, .trend, day, some (res.get v)⟩
      else if fin.get v = .inside then (shift v).map fun m => ⟨⟨.line n, some v⟩, .lotAttributed, day, some m⟩
      else none := by
  simp only [finalOffer, Bool.and_eq_true, hP, hQ]
  refine ite_congr rfl (fun _ => rfl) fun _ => ite_congr rfl (fun _ => rfl) fun _ => ?_
  cases shift v with
  | none => exact (ite_self none).symm
  | some m => rfl

theorem finalised_eq {P : Prop} [Decidable P] {before after : List Point} (hP : P ↔ pt.counted = true)
    (hr : c.ring = before ++ pt :: after) (ho : ∀ q ∈ before ++ after, q.day ≠ pt.day) :
    c.finalised pt res fin shift = { c with
      state := if c.state = .enrolled then .active else c.state
      ring := before ++ finalPoint pt res fin shift :: after
      filters := if P then Table.ofFn fun v => (c.filters.get v).feed (res.get v) else c.filters
      warn := if P then Table.ofFn fun v => some (fin.get v) else c.warn } := by
  have hring : ringReplace c.ring (finalPoint pt res fin shift) = before ++ finalPoint pt res fin shift :: after := by
    rw [hr]
    exact ringReplace_mid rfl ho
  simp only [LineCtx.finalised, hring, hP]
end
end

/-- Settles O23: the line passed over, and the point finalised with the shift of R130 and the offers of R131. -/
theorem finalisationStep : Obligations.FinalisationStep := by
  intro s n next hst hlast hmore
  have hafter := finalisation_next hlast hmore
  refine ⟨fun hc => ?_, fun c hc => ⟨fun hno => ?_, fun before pt after hr ho hday hp => ?_⟩⟩
  · rw [exec_finalisationStep hst, finalise_none hc, State.advance, hafter]
  · rw [exec_finalisationStep hst, finalise_passes hc hno, State.advance, hafter]
  · intro shift
    refine ⟨fun v m => appliedShift_iff, ?_⟩
    intro part res finals counted pairs reaches offer
    have hothers : ∀ q ∈ before ++ after, q.day ≠ pt.day := hday ▸ ho
    have hat : ringAt c.ring s.day.closingDay = some pt := by
      rw [hr, ← hday]
      exact ringAt_mid fun q hq => hothers q (List.mem_append_left _ hq)
    have hcounted : counted ↔ pt.counted = true := counted_iff.symm
    have hpairs : ∀ v, counted ∧ pairs v ↔ (pt.counted = true ∧ warnPairs (c.warn.get v) (finals.get v) = true) := fun v =>
      and_congr hcounted (warnPairs_iff ..).symm
    have hreaches : ∀ v, counted ∧ reaches v ↔
        (pt.counted = true ∧ indicates part (c.filters.get v) ((c.filters.get v).feed (res.get v)) = true) := fun v =>
      and_congr hcounted indicates_iff.symm
    rw [exec_finalisationStep hst, finalise_point hc hat hp, State.finalisePoint, State.advance, hafter]
    simp only [State.offerAll_day]
    refine congrArg Host.Outcome.next (congrArg₂ (fun c' os => ((s.setLine n (some c')).offerAll os).setDay
      { s.day with state := next, tally := { s.day.tally with points := s.day.tally.points + 1 } })
      (finalised_eq hcounted hr hothers) (List.filterMap_congr fun v _ => finalOffer_eq (hpairs v) (hreaches v)))

end Sys2Proof.Machine
end

-- ==== Proofs: the later stages of the pass ====
section
/-! PROOFS. The overdue and countdown steps (O24), the transfer steps and the summary (O25). -/
namespace Sys2Proof.Machine

section
variable {s : State} {n : Fin 96} {k : Fin 16} {c : LineCtx} {next : DayState}

/-! ### The step that is next -/

theorem exec_overdueStep (h : s.day.state = .closing (.overdue n)) :
    exec .overdueStep s = .next ((s.overdueScan n).advance (.overdue n)) := by
  have hrow : exec .overdueStep s = .next (
    match s.day.state with
    | .closing (.overdue n) => (s.overdueScan n).advance (.overdue n)
    | _ => s) := rfl
  rw [hrow, h]

theorem exec_countdownStep (h : s.day.state = .closing (.countdown k)) :
    exec .countdownStep s = .next (
      match nextItem k with
      | some _ => (s.countDown k).advance (.countdown k)
      | none => ((s.countDown k).advance (.countdown k)).beginTransfer) := by
  have hrow : exec .countdownStep s = .next (
    match s.day.state with
    | .closing (.countdown k) =>
      match nextItem k with
      | some _ => (s.countDown k).advance (.countdown k)
      | none => ((s.countDown k).advance (.countdown k)).beginTransfer
    | _ => s) := rfl
  rw [hrow, h]

theorem exec_transferAim (h : s.day.state = .closing (.transferAim k)) :
    exec .transferStep s = .next ((s.transferSet k).advance (.transferAim k)) := by
  have hrow : exec .transferStep s = .next (
    match s.day.state with
    | .closing (.transferAim k) => (s.transferSet k).advance (.transferAim k)
    | .closing (.transferLot k) => (s.transferSlot k).advance (.transferLot k)
    | _ => s) := rfl
  rw [hrow, h]

theorem exec_transferLot (h : s.day.state = .closing (.transferLot k)) :
    exec .transferStep s = .next ((s.transferSlot k).advance (.transferLot k)) := by
  have hrow : exec .transferStep s = .next (
    match s.day.state with
    | .closing (.transferAim k) => (s.transferSet k).advance (.transferAim k)
    | .closing (.transferLot k) => (s.transferSlot k).advance (.transferLot k)
    | _ => s) := rfl
  rw [hrow, h]

theorem exec_summary (h : s.day.state = .closing .summary) : exec .summary s = .next s.summarise := by
  have hrow : exec .summary s = .next (
    match s.day.state with
    | .closing .summary => s.summarise
    | _ => s) := rfl
  rw [hrow, h]

theorem overdue_next (hlast : n.val = 95 → next = .closing (.countdown 0))
    (hmore : ∀ h : n.val + 1 < 96, next = .closing (.overdue ⟨n.val + 1, h⟩)) : stateAfter (.overdue n) = next := by
  by_cases h : n.val + 1 < 96
  · simp only [stateAfter, nextItem_more h, hmore h]
  · simp only [stateAfter, nextItem_last (show n.val + 1 = 96 by omega), hlast (by omega)]

theorem transferAim_next (hlast : k.val = 15 → next = .closing (.transferLot 0))
    (hmore : ∀ h : k.val + 1 < 16, next = .closing (.transferAim ⟨k.val + 1, h⟩)) :
    stateAfter (.transferAim k) = next := by
  by_cases h : k.val + 1 < 16
  · simp only [stateAfter, nextItem_more h, hmore h]
  · simp only [stateAfter, nextItem_last (show k.val + 1 = 16 by omega), hlast (by omega)]

theorem transferLot_next (hlast : k.val = 15 → next = .closing .summary)
    (hmore : ∀ h : k.val + 1 < 16, next = .closing (.transferLot ⟨k.val + 1, h⟩)) :
    stateAfter (.transferLot k) = next := by
  by_cases h : k.val + 1 < 16
  · simp only [stateAfter, nextItem_more h, hmore h]
  · simp only [stateAfter, nextItem_last (show k.val + 1 = 16 by omega), hlast (by omega)]

/-- After the last slot the countdown ends in the transfer stage, which waits while the store is SAVING (R133). -/
theorem exec_countdownStep_next (h : s.day.state = .closing (.countdown k))
    (hlast : k.val = 15 → next = if s.store.isSaving then .transferWait else .closing (.transferAim 0))
    (hmore : ∀ h : k.val + 1 < 16, next = .closing (.countdown ⟨k.val + 1, h⟩)) :
    exec .countdownStep s = .next ((s.countDown k).setDay { (s.countDown k).day with state := next }) := by
  rw [exec_countdownStep h]
  by_cases hk : k.val + 1 < 16
  · rw [nextItem_more hk, hmore hk]
    simp only [State.advance, stateAfter, nextItem_more hk]
  · have hend := nextItem_last (show k.val + 1 = 16 by omega)
    have hstore : ((s.countDown k).advance (.countdown k)).store = s.store := by
      unfold State.countDown
      split <;> rfl
    rw [hend, hlast (by omega)]
    dsimp only
    rw [State.beginTransfer, hstore]
    split
    · rfl
    · simp only [State.advance, stateAfter, hend]

/-! ### The overdue scan -/

theorem offer_day (s : State) (o : Offer) : (s.offer o).day = s.day := State.offerAll_day s [o]

theorem misses_iff {day : Nat} : c.misses day = true ↔
    (c.state = .active ∨ c.state = .overdue) ∧ ∀ q ∈ c.ring, q.day ≠ day := by
  simp [LineCtx.misses, ringAt]

theorem overdueScan_none (h : s.line n = none) : s.overdueScan n = s := by
  unfold State.overdueScan
  rw [h]

theorem overdueScan_present (h : s.line n = some c) (hm : c.misses s.day.closingDay = false) : s.overdueScan n = s := by
  unfold State.overdueScan
  rw [h]
  exact if_neg (hm ▸ nofun)

theorem overdueScan_counts (h : s.line n = some c) (hm : c.misses s.day.closingDay = true)
    (hno : ¬ (c.state = .active ∧ s.day.desk.overdueLimit ≤ satSucc 255 c.missed)) :
    s.overdueScan n = s.setLine n (some { c with missed := satSucc 255 c.missed }) := by
  unfold State.overdueScan
  rw [h]
  exact (if_pos hm).trans (if_neg hno)

theorem overdueScan_reports (h : s.line n = some c) (hm : c.misses s.day.closingDay = true) (hact : c.state = .active)
    (hlimit : s.day.desk.overdueLimit ≤ satSucc 255 c.missed) :
    s.overdueScan n = ((s.setLine n (some { c with missed := satSucc 255 c.missed, state := .overdue })).offer
      ⟨⟨.line n, none⟩, .overdue, s.day.closingDay, none⟩).setDay
        { s.day with tally := { s.day.tally with overdue := s.day.tally.overdue + 1 } } := by
  unfold State.overdueScan
  rw [h]
  refine (if_pos hm).trans ((if_pos ⟨hact, hlimit⟩).trans ?_)
  simp only [offer_day]
  rfl

/-! ### Transfer -/

theorem transferSet_same (h : (s.aim k).active = (s.aim k).pending) : s.transferSet k = s := if_pos h

theorem transferSet_held (h : (s.aim k).active ≠ (s.aim k).pending) (hh : s.holder (.aim k) ≠ none) :
    s.transferSet k = s.countTransfer true := (if_neg h).trans (if_pos (Option.isSome_iff_ne_none.mpr hh))

theorem transferSet_free (h : (s.aim k).active ≠ (s.aim k).pending) (hh : s.holder (.aim k) = none) :
    s.transferSet k = (s.setAim k { s.aim k with active := (s.aim k).pending }).countTransfer false :=
  (if_neg h).trans (if_neg (by rw [hh]; exact nofun))

theorem transferSlot_none (h : s.lot k = none) : s.transferSlot k = s := by
  unfold State.transferSlot
  rw [h]

variable {l : Lot}

theorem transferSlot_same (hl : s.lot k = some l) (h : l.active = l.pending) : s.transferSlot k = s := by
  unfold State.transferSlot
  rw [hl]
  exact if_pos h

theorem transferSlot_held (hl : s.lot k = some l) (h : l.active ≠ l.pending) (hh : s.holder (.lot k) ≠ none) :
    s.transferSlot k = s.countTransfer true := by
  unfold State.transferSlot
  rw [hl]
  exact (if_neg h).trans (if_pos (Option.isSome_iff_ne_none.mpr hh))

theorem transferSlot_free (hl : s.lot k = some l) (h : l.active ≠ l.pending) (hh : s.holder (.lot k) = none) :
    s.transferSlot k = (s.setLot k (some { l with active := l.pending })).countTransfer false := by
  unfold State.transferSlot
  rw [hl]
  exact (if_neg h).trans (if_neg (by rw [hh]; exact nofun))
end

/-- Settles O24: the line counted, the line reported and the line passed over; the slot counted down. -/
theorem overdueAndCountdownSteps : Obligations.OverdueAndCountdownSteps := by
  intro s next
  refine ⟨fun n c hst hlast hmore hc => ?_, fun k hst hlast hmore => ⟨fun hl => ?_, fun l hl => ⟨fun left hr hpos => ?_,
    fun hno => ?_⟩⟩, fun n hst hlast hmore hc => ?_⟩
  · intro misses count
    have hmisses : c.misses s.day.closingDay = true ↔ misses := misses_iff
    rw [exec_overdueStep hst, State.advance, overdue_next hlast hmore]
    refine ⟨fun hm => ?_, fun hm hno => ?_, fun hm hact hlimit => ⟨_, rfl, ?_⟩⟩
    · rw [overdueScan_present hc (Bool.eq_false_iff.mpr (mt hmisses.mp hm))]
    · rw [overdueScan_counts hc (hmisses.mpr hm) fun ⟨hact, hle⟩ => ?_]
      · rfl
      · exact hno.elim (fun h => by rw [hact] at h; cases h) (Nat.not_lt.mpr hle)
    · rw [overdueScan_reports hc (hmisses.mpr hm) hact hlimit]
      rfl
  · have hstill : s.countDown k = s := by
      unfold State.countDown
      rw [hl]
    rw [exec_countdownStep_next hst hlast hmore, hstill]
  · have hcount : s.countDown k =
        s.setLot k (some { l with state := if left = 1 then .retired else .retiring (left - 1) }) := by
      unfold State.countDown Lot.countedDown
      rw [hl]
      simp only [hr, show left ≤ 1 ↔ left = 1 by omega]
    rw [exec_countdownStep_next hst hlast hmore, hcount]
    rfl
  · have hstill : s.countDown k = s := by
      have hlot : l.countedDown = l := by
        unfold Lot.countedDown
        split
        · next left h => exact absurd h (hno left)
        · rfl
        · rfl
        · rfl
      unfold State.countDown
      rw [hl]
      exact (congrArg (fun x => s.setLot k (some x)) hlot).trans (setLot_same hl)
    rw [exec_countdownStep_next hst hlast hmore, hstill]
  · rw [exec_overdueStep hst, overdueScan_none hc, State.advance, overdue_next hlast hmore]

/-- Settles O25: nothing to transfer, deferred or transferred, for a set and for a slot. -/
theorem transferStepsAndSummary : Obligations.TransferStepsAndSummary := by
  refine ⟨fun s close hst hlast => ?_, fun s next k => ?_⟩
  · have hsummary : s.day.summaryOf = ⟨close, s.day.tally⟩ := by rw [DayUnit.summaryOf, hlast]; rfl
    rw [exec_summary hst, State.summarise, hsummary]
    rfl
  · intro tally
    refine ⟨fun hst hlast hmore => ?_, fun hst hlast hmore => ⟨fun hl => ?_, fun l hl => ?_⟩⟩
    · rw [exec_transferAim hst, State.advance, transferAim_next hlast hmore]
      refine ⟨fun h => ?_, fun h hh => ?_, fun h hh => ?_⟩
      · rw [transferSet_same h]
        rfl
      · rw [transferSet_held h hh]
        rfl
      · rw [transferSet_free h hh]
        rfl
    · rw [exec_transferLot hst, State.advance, transferLot_next hlast hmore, transferSlot_none hl]
      rfl
    · rw [exec_transferLot hst, State.advance, transferLot_next hlast hmore]
      refine ⟨fun h => ?_, fun h hh => ?_, fun h hh => ?_⟩
      · rw [transferSlot_same hl h]
        rfl
      · rw [transferSlot_held hl h hh]
        rfl
      · rw [transferSlot_free hl h hh]
        rfl

end Sys2Proof.Machine
end

-- ==== Proofs: commands on a line ====
section
/-! PROOFS. The commands that edit a line (O27) and its withdrawal (O28). -/
namespace Sys2Proof.Machine

/-! ### The operands -/

theorem parseIndex_line (n : Fin 96) : parseIndex 96 [byte n.val] = .ok n := parseIndex_byte (by decide) n

theorem parseIndex_slot (k : Fin 16) : parseIndex 16 [byte k.val] = .ok k := parseIndex_byte (by decide) k

theorem indexOf_line (n : Fin 96) : indexOf 96 (byte n.val) = some n := indexOf_byte (by decide) n

theorem indexOf_set (k : Fin 16) : indexOf 16 (byte k.val) = some k := indexOf_byte (by decide) k

theorem indexOf_value (v : Fin 12) : indexOf 12 (byte v.val) = some v := indexOf_byte (by decide) v

theorem parseSetLineAim_bytes (n : Fin 96) (k : Fin 16) : parseSetLineAim [byte n.val, byte k.val] = .ok (n, k) := by
  simp only [parseSetLineAim, indexOf_line, indexOf_set]
  rfl

theorem parseChem_mix (n : Fin 96) : parseChem [byte n.val, 1] = .ok (n, true) := by
  simp only [parseChem, indexOf_line]
  rfl

theorem parseChem_rate (n : Fin 96) : parseChem [byte n.val, 2] = .ok (n, false) := by
  simp only [parseChem, indexOf_line]
  rfl

theorem parseChem_ok (n : Fin 96) {e : Byte} (he : e = 1 ∨ e = 2) :
    ∃ mix, parseChem [byte n.val, e] = .ok (n, mix) := by
  rcases he with rfl | rfl
  · exact ⟨true, parseChem_mix n⟩
  · exact ⟨false, parseChem_rate n⟩

theorem parseVoid_bytes (n : Fin 96) (a b : Byte) : parseVoid [byte n.val, a, b] = .ok (n, nat16 a b) := by
  simp only [parseVoid, indexOf_line]
  rfl

/-! ### The edits -/

section
variable {s : State} {p : Port} {n : Fin 96} {c : LineCtx} {i : Item}

theorem heldByOther_iff : s.heldByOther p i = true ↔ s.holder i = some (otherPort p) := beq_iff_eq

theorem suspendLineAct_some (h : s.line n = some c) : suspendLineAct n s =
    if c.state = .suspended then .refuse .state
    else .done (s.setLine n (some { c with state := .suspended })) .ok [] := by
  unfold suspendLineAct
  rw [h]

theorem suspendLineAct_none (h : s.line n = none) : suspendLineAct n s = .refuse .state := by
  unfold suspendLineAct
  rw [h]

theorem resumeLineAct_some (h : s.line n = some c) : resumeLineAct n s =
    if c.state = .suspended then .done (s.setLine n (some c.resumed)) .ok [] else .refuse .state := by
  unfold resumeLineAct
  rw [h]

theorem resumeLineAct_none (h : s.line n = none) : resumeLineAct n s = .refuse .state := by
  unfold resumeLineAct
  rw [h]

theorem setLineAimAct_some {k : Fin 16} (h : s.line n = some c) : setLineAimAct n k s =
    if c.kind ≠ (s.aim k).kind then .refuse .state else .done (s.setLine n (some { c with aim := k })) .ok [] := by
  unfold setLineAimAct
  rw [h]

theorem setLineAimAct_none {k : Fin 16} (h : s.line n = none) : setLineAimAct n k s = .refuse .state := by
  unfold setLineAimAct
  rw [h]

theorem chemEventAct_held {mix : Bool} (h : s.holder (.line n) = some (otherPort p)) :
    chemEventAct p n mix s = .refuse .held := if_pos (heldByOther_iff.mpr h)

theorem chemEventAct_free {mix : Bool} (h : s.holder (.line n) ≠ some (otherPort p)) : chemEventAct p n mix s =
    match s.line n with
    | none => .refuse .state
    | some c => if c.state = .suspended then .refuse .state else .done (s.setLine n (some (c.chem mix))) .ok [] :=
  if_neg (mt heldByOther_iff.mp h)

theorem chemEventAct_none {mix : Bool} (hfree : s.holder (.line n) ≠ some (otherPort p)) (h : s.line n = none) :
    chemEventAct p n mix s = .refuse .state := by
  rw [chemEventAct_free hfree, h]

theorem chemEventAct_some {mix : Bool} (hfree : s.holder (.line n) ≠ some (otherPort p)) (h : s.line n = some c) :
    chemEventAct p n mix s =
      if c.state = .suspended then .refuse .state else .done (s.setLine n (some (c.chem mix))) .ok [] := by
  rw [chemEventAct_free hfree, h]

theorem voidPointAct_none {day : Nat} (h : s.line n = none) : voidPointAct n day s = .refuse .state := by
  unfold voidPointAct
  rw [h]

theorem voidPointAct_noDay {day : Nat} (h : s.line n = some c) (hno : ∀ q ∈ c.ring, q.day ≠ day) :
    voidPointAct n day s = .refuse .notFound := by
  unfold voidPointAct
  rw [h]
  dsimp only
  rw [ringAt_none hno]

theorem voidPointAct_point {day : Nat} {pt : Point} (h : s.line n = some c) (hat : ringAt c.ring day = some pt) :
    voidPointAct n day s = if pt.state = .void then .refuse .state
      else .done (s.setLine n (some { c with ring := ringReplace c.ring { pt with state := .void } })) .ok [] := by
  unfold voidPointAct
  rw [h]
  dsimp only
  rw [hat]
end

/-- Settles O27: each command by the line it finds. -/
theorem lineEdits : Obligations.LineEdits := by
  intro s p n done refused
  refine ⟨fun hn => ⟨fun hx hok => ?_, fun hx hok => ?_, fun k hx hok => ?_, fun e he hx hok hfree => ?_,
    fun a b hx hok => ?_⟩, fun c hc => ⟨fun hx hok => ?_, fun hx hok => ?_, fun k hx hok => ?_, fun e hx hok => ?_,
    fun a b hx hok => ?_⟩⟩
  · exact command_refuses rfl hx rfl (parseIndex_line n) hok (suspendLineAct_none hn)
  · exact command_refuses rfl hx rfl (parseIndex_line n) hok (resumeLineAct_none hn)
  · exact command_refuses rfl hx rfl (parseSetLineAim_bytes n k) hok (setLineAimAct_none hn)
  · obtain ⟨mix, hp⟩ := parseChem_ok n he
    exact command_refuses rfl hx rfl hp hok (chemEventAct_none hfree hn)
  · exact command_refuses rfl hx rfl (parseVoid_bytes n a b) hok (voidPointAct_none hn)
  · exact ⟨fun hs => command_refuses rfl hx rfl (parseIndex_line n) hok ((suspendLineAct_some hc).trans (if_pos hs)),
      fun hs => command_done rfl hx rfl (parseIndex_line n) hok ((suspendLineAct_some hc).trans (if_neg hs))⟩
  · exact ⟨fun hs => command_refuses rfl hx rfl (parseIndex_line n) hok ((resumeLineAct_some hc).trans (if_neg hs)),
      fun hs => command_done rfl hx rfl (parseIndex_line n) hok ((resumeLineAct_some hc).trans (if_pos hs))⟩
  · have hp := parseSetLineAim_bytes n k
    exact ⟨fun hk => command_refuses rfl hx rfl hp hok ((setLineAimAct_some hc).trans (if_pos hk)),
      fun hk => command_done rfl hx rfl hp hok ((setLineAimAct_some hc).trans (if_neg (not_not.mpr hk)))⟩
  · refine ⟨fun he hheld => ?_, fun he hfree hs => ?_, fun he hfree hs => ?_, fun he hfree hs => ?_⟩
    · obtain ⟨mix, hp⟩ := parseChem_ok n he
      exact command_refuses rfl hx rfl hp hok (chemEventAct_held hheld)
    · obtain ⟨mix, hp⟩ := parseChem_ok n he
      exact command_refuses rfl hx rfl hp hok ((chemEventAct_some hfree hc).trans (if_pos hs))
    · subst he
      exact command_done rfl hx rfl (parseChem_mix n) hok ((chemEventAct_some hfree hc).trans (if_neg hs))
    · subst he
      exact command_done rfl hx rfl (parseChem_rate n) hok ((chemEventAct_some hfree hc).trans (if_neg hs))
  · have hp := parseVoid_bytes n a b
    refine ⟨fun hno => command_refuses rfl hx rfl hp hok (voidPointAct_noDay hc hno),
      fun before pt after hr hday ho => ?_⟩
    have hothers : ∀ q ∈ before ++ after, q.day ≠ pt.day := hday ▸ ho
    have hat : ringAt c.ring (nat16 a b) = some pt := by
      rw [hr, ← hday]
      exact ringAt_mid fun q hq => hothers q (List.mem_append_left _ hq)
    have hring : ringReplace c.ring { pt with state := .void } = before ++ { pt with state := .void } :: after := by
      rw [hr]
      exact ringReplace_mid rfl hothers
    have hact := voidPointAct_point hc hat
    rw [hring] at hact
    exact ⟨fun hv => command_refuses rfl hx rfl hp hok (hact.trans (if_pos hv)),
      fun hv => command_done rfl hx rfl hp hok (hact.trans (if_neg hv))⟩

/-! ### Withdrawal -/

theorem map_set {α β : Type} {m : Nat} (f : α → β) (t : Table α m) (i : Fin m) (a : α) :
    (t.set i a).map f = (t.map f).set i (f a) := by
  refine Table.ext fun j => ?_
  simp only [Table.get_map, Table.get_set]
  split <;> rfl

section
variable {s t : State} {p : Port} {n : Fin 96} {c : LineCtx}

theorem quiet_setLine (h : t.quiet = s.quiet) (n : Fin 96) (c : Option LineCtx) :
    (t.setLine n c).quiet = (s.setLine n c).quiet := by
  have hset : ∀ x : State, (x.setLine n c).quiet = x.quiet.setLine n (c.map LineCtx.unwaited) := fun x =>
    congrArg (fun ls => { x.quiet with lines := ls }) (map_set ..)
  rw [hset, hset, h]

theorem quiet_setLot (h : t.quiet = s.quiet) (k : Fin 16) (l : Option Lot) :
    (t.setLot k l).quiet = (s.setLot k l).quiet := by
  have hset : ∀ x : State, (x.setLot k l).quiet = x.quiet.setLot k (l.map Lot.unwaited) := fun x =>
    congrArg (fun ls => { x.quiet with lots := ls }) (map_set ..)
  rw [hset, hset, h]

theorem quiet_answer (h : t.quiet = s.quiet) (p : Port) (code : Byte) (st : Status) (data : List Byte) :
    (t.answer p code st data).quiet = (s.answer p code st data).quiet := by
  have hset : ∀ x : State, (x.answer p code st data).quiet = x.quiet.answer p code st data := fun x => by
    cases p <;> rfl
  rw [hset, hset, h]

theorem quiet_labMap (h : t.quiet = s.quiet) (m : List MapEntry) :
    ({ t with labMap := m } : State).quiet = ({ s with labMap := m } : State).quiet :=
  congrArg (fun x => { x with labMap := m }) h

theorem setLine_setLine (s : State) (n : Fin 96) (a b : Option LineCtx) : (s.setLine n a).setLine n b = s.setLine n b :=
  congrArg (fun ls => { s with lines := ls }) (Table.set_set s.lines n a b)

theorem setLot_setLot (s : State) (k : Fin 16) (a b : Option Lot) : (s.setLot k a).setLot k b = s.setLot k b :=
  congrArg (fun ls => { s with lots := ls }) (Table.set_set s.lots k a b)

theorem withdrawLineAct_none (h : s.line n = none) : withdrawLineAct n s = .refuse .state := by
  unfold withdrawLineAct
  rw [h]

theorem withdrawLineAct_some (h : s.line n = some c) : withdrawLineAct n s =
    if c.state = .suspended then .done (s.withdraw n c) .ok [] else .refuse .state := by
  unfold withdrawLineAct
  rw [h]

/-- Dropping a line's alerts leaves the lab map. -/
theorem dropLineAlerts_labMap (s : State) (n : Fin 96) (c : LineCtx) : (s.dropLineAlerts n c).labMap = s.labMap := by
  obtain ⟨_, _, _, _, hmap, _⟩ := State.quiet_fields
    (State.departAll_quiet (s.setLine n (some { c with waiting := Table.fill 13 none }))
      ((s.setLine n (some { c with waiting := Table.fill 13 none })).entriesOf (.line n)))
  exact hmap

theorem withdraw_eq (s : State) (n : Fin 96) (c : LineCtx) : s.withdraw n c =
    { (s.dropLineAlerts n c).setLine n none with labMap := s.labMap.filter fun e => e.line != n } :=
  congrArg (fun m : List MapEntry => { (s.dropLineAlerts n c).setLine n none with labMap := m.filter fun e => e.line != n })
    (dropLineAlerts_labMap s n c)

theorem withdraw_quiet (s : State) (n : Fin 96) (c : LineCtx) : (s.withdraw n c).quiet =
    ({ s.setLine n none with labMap := s.labMap.filter fun e => e.line != n } : State).quiet := by
  have hdrop := quiet_setLine (State.departAll_quiet (s.setLine n (some { c with waiting := Table.fill 13 none }))
    ((s.setLine n (some { c with waiting := Table.fill 13 none })).entriesOf (.line n))) n none
  rw [setLine_setLine] at hdrop
  rw [withdraw_eq]
  exact quiet_labMap hdrop _
end

/-- Settles O28: on a SUSPENDED line the alerts are dropped, the line and its map entry freed. -/
theorem withdrawLine : Obligations.WithdrawLine := by
  intro s p n hx hok
  have hp := parseIndex_line n
  refine ⟨fun hn => command_refuses rfl hx rfl hp hok (withdrawLineAct_none hn), fun c hc => ⟨fun hs =>
    command_refuses rfl hx rfl hp hok ((withdrawLineAct_some hc).trans (if_neg hs)), fun hs => ?_⟩⟩
  refine ⟨_, command_done rfl hx rfl hp hok ((withdrawLineAct_some hc).trans (if_pos hs)), ?_, ?_, fun _ e he => ?_, ?_⟩
  · rw [State.line, State.answer_lines, withdraw_eq]
    exact Table.get_set_self ..
  · exact quiet_answer (withdraw_quiet s n c) ..
  · rw [State.answer_alerts] at he
    exact dropLineAlerts_clears s n c e he
  · rw [withdraw_eq]
    rfl

end Sys2Proof.Machine
end

-- ==== Proofs: the aim commands ====
section
/-! PROOFS. The writes on an aim set (O29), the preload mode and the discard (O30). -/
namespace Sys2Proof.Machine

/-! ### The operands -/

theorem parseWriteAim_bytes (k : Fin 16) (v : Fin 12) (o1 o2 a1 a2 b1 b2 c1 c2 d1 d2 : Byte) :
    parseWriteAim [byte k.val, byte v.val, o1, o2, a1, a2, b1, b2, c1, c2, d1, d2] =
      .ok (k, v, ⟨int16 o1 o2, int16 a1 a2, int16 b1 b2, int16 c1 c2, int16 d1 d2⟩) := by
  simp only [parseWriteAim, indexOf_set, indexOf_value]
  rfl

theorem parseAimRules_bytes (k : Fin 16) (kind : ProcessKind) (r l c : Byte) :
    parseAimRules [byte k.val, kind.code, r, l, c] = .ok ⟨k, kind, r.toNat, l.toNat, c.toNat⟩ := by
  simp only [parseAimRules, indexOf_set, kindOf_code]
  rfl

theorem parsePreload_off (k : Fin 16) : parsePreload [byte k.val, 0] = .ok (k, false) := by
  simp only [parsePreload, indexOf_set]
  rfl

theorem parsePreload_on (k : Fin 16) : parsePreload [byte k.val, 1] = .ok (k, true) := by
  simp only [parsePreload, indexOf_set]
  rfl

/-! ### The edits -/

section
variable {s : State} {k : Fin 16} {f : AimPart → AimPart}

theorem edit_on {a : AimSet} (h : a.preload = true) : a.edit f = { a with pending := f a.pending } := if_pos h

theorem edit_off {a : AimSet} (h : a.preload = false) :
    a.edit f = { a with active := f a.active, pending := f a.pending } := if_neg (h ▸ nofun)

theorem edit_eq (a : AimSet) (f : AimPart → AimPart) :
    a.edit f = { a with active := if a.preload then a.active else f a.active, pending := f a.pending } := by
  unfold AimSet.edit
  split <;> rfl

theorem linesNaming_pos : 0 < s.linesNaming k ↔ ∃ n c, s.line n = some c ∧ c.aim = k := by
  unfold State.linesNaming
  rw [List.length_pos_iff_exists_mem]
  refine exists_congr fun n => ?_
  cases h : s.line n with
  | none => simp [h]
  | some c => simp [h]

theorem setAim_same (s : State) (k : Fin 16) : s.setAim k (s.aim k) = s :=
  congrArg (fun t => { s with aims := t }) (Table.set_get s.aims k)

theorem setPreload_stays {a : AimSet} (h : a.preload = false) : a.setPreload false = a := by
  have hkeep : a.setPreload false = { a with preload := false } := if_neg (by rw [h]; decide)
  rw [hkeep, ← h]

theorem setPreload_leaves {a : AimSet} (h : a.preload = true) :
    a.setPreload false = { a with active := a.pending, preload := false } := if_pos (by rw [h]; decide)

theorem setPreload_enters (a : AimSet) : a.setPreload true = { a with preload := true } :=
  if_neg (by rw [Bool.not_true, Bool.and_false]; decide)
end

/-- Settles O29: the part the write is validated on, then the preload mode. -/
theorem aimWrites : Obligations.AimWrites := by
  intro s p k a
  refine ⟨?_, ?_⟩
  · intro v o1 o2 a1 a2 b1 b2 c1 c2 d1 d2 x put hx hok
    have hp := parseWriteAim_bytes k v o1 o2 a1 a2 b1 b2 c1 c2 d1 d2
    have hact (hv : ((s.aim k).target.putValue v x).valid = true) :
        writeAimAct k v x s = .done (s.setAim k ((s.aim k).edit fun q => q.putValue v x)) .ok [] := if_pos hv
    refine ⟨fun hv => command_refuses rfl hx rfl hp hok (if_neg (by rw [Bool.not_eq_true]; exact hv)), fun hpre hv => ?_,
      fun hpre hv => ?_⟩
    · have htarget : (s.aim k).target = (s.aim k).pending := if_pos hpre
      have hdone := hact (by rw [htarget]; exact hv)
      rw [edit_on hpre] at hdone
      exact command_done rfl hx rfl hp hok hdone
    · have htarget : (s.aim k).target = (s.aim k).active := if_neg (by rw [hpre]; decide)
      have hdone := hact (by rw [htarget]; exact hv)
      rw [edit_off hpre] at hdone
      exact command_done rfl hx rfl hp hok hdone
  · intro kind r l c put hx hok
    have hp := parseAimRules_bytes k kind r l c
    have hnames : 0 < s.linesNaming k ↔ ∃ n c', s.line n = some c' ∧ c'.aim = k := linesNaming_pos
    refine ⟨fun hv => command_refuses rfl hx rfl hp hok (if_neg (by rw [Bool.not_eq_true]; exact hv)),
      fun hv hkind hnamed => ?_, fun hv hfree => ?_⟩
    · exact command_refuses rfl hx rfl hp hok ((if_pos hv).trans (if_pos ⟨hkind, hnames.mpr hnamed⟩))
    · have hno : ¬ ((s.aim k).kind ≠ kind ∧ 0 < s.linesNaming k) := fun ⟨hkind, hpos⟩ => by
        obtain ⟨n, c', hn, haim⟩ := hnames.mp hpos
        exact hfree.elim hkind fun h => h n c' hn haim
      have hdone : writeAimRulesAct ⟨k, kind, r.toNat, l.toNat, c.toNat⟩ s = .done (s.setAim k
          { (s.aim k).edit (fun q => q.putRules r.toNat l.toNat c.toNat) with kind := kind }) .ok [] :=
        (if_pos hv).trans (if_neg hno)
      rw [edit_eq] at hdone
      exact command_done rfl hx rfl hp hok hdone

/-- Settles O30: each preload mode, and the discard. -/
theorem preloadAndDiscard : Obligations.PreloadAndDiscard := by
  intro s p k a
  have hact (mode : Bool) : setPreloadAct k mode s = .done (s.setAim k ((s.aim k).setPreload mode)) .ok [] := rfl
  refine ⟨fun hx hok => ⟨fun hpre => ?_, fun hpre => ?_⟩, fun hx hok => ?_, fun hx hok => ?_⟩
  · have hdone := hact false
    rw [setPreload_leaves hpre] at hdone
    exact command_done rfl hx rfl (parsePreload_off k) hok hdone
  · have hdone := hact false
    rw [setPreload_stays hpre, setAim_same] at hdone
    exact command_done rfl hx rfl (parsePreload_off k) hok hdone
  · have hdone := hact true
    rw [setPreload_enters] at hdone
    exact command_done rfl hx rfl (parsePreload_on k) hok hdone
  · exact command_done rfl hx rfl (parseIndex_slot k) hok rfl

end Sys2Proof.Machine
end

-- ==== Proofs: the lot commands and the desk settings ====
section
/-! PROOFS. DEFINE-LOT and MAKE-CURRENT (O31), the edits of a slot (O32) and WRITE-DESK (O33). -/
namespace Sys2Proof.Machine

/-! ### The operands of DEFINE-LOT -/

theorem int16s_signed16 : ∀ {l : List Int}, (∀ x ∈ l, -4000 ≤ x ∧ x ≤ 4000) → int16s (l.flatMap signed16) = l
  | [], _ => rfl
  | x :: l, h => by
    obtain ⟨hlow, hhigh⟩ := h x List.mem_cons_self
    have hx := int16_signed16 (i := x) (by omega) (by omega)
    have hl := int16s_signed16 fun y hy => h y (List.mem_cons_of_mem x hy)
    exact congrArg₂ List.cons hx hl

section
variable {s : State} {p : Port} {k : Fin 16} {code : Nat} {kind : ProcessKind} {refs : Table Int 12}

theorem defineLot_length : ([byte k.val] ++ bytes32 code ++ [kind.code] ++ refs.cells.flatMap signed16).length = 30 := by
  have hrefs := flatMap_length signed16 2 signed16_length refs.cells
  simp [hrefs, refs.size]

theorem parseDefineLot_bytes (hlow : 1 ≤ code) (hhigh : code ≤ 4294967295)
    (hrefs : ∀ v, -4000 ≤ refs.get v ∧ refs.get v ≤ 4000) :
    parseDefineLot ([byte k.val] ++ bytes32 code ++ [kind.code] ++ refs.cells.flatMap signed16) =
      .ok ⟨k, code, kind, refs⟩ := by
  have hcells : ∀ x ∈ refs.cells, -4000 ≤ x ∧ x ≤ 4000 := fun x hx => by
    obtain ⟨v, rfl⟩ := (Table.mem_cells refs x).mp hx
    exact hrefs v
  have hall : refs.cells.all (within (-4000) 4000) = true :=
    List.all_eq_true.mpr fun x hx => within_iff.mpr (hcells x hx)
  show parseDefineLot (byte k.val :: byte (code / 16777216) :: byte (code / 65536) :: byte (code / 256) :: byte code ::
    kind.code :: refs.cells.flatMap signed16) = _
  simp only [parseDefineLot, indexOf_set, nat32_bytes (show code < 4294967296 by omega), int16s_signed16 hcells,
    twelve_cells, kindOf_code]
  show (check (decide (1 ≤ code)) .range >>= fun _ => check (refs.cells.all (within (-4000) 4000)) .range >>=
    fun _ => Except.ok (LotOperands.mk k code kind refs)) = _
  rw [decide_eq_true hlow, hall]
  rfl

/-! ### The search of the slots -/

theorem findLot_isSome : (s.findLot code).isSome = true ↔ ∃ j l, s.lot j = some l ∧ l.code = code := by
  unfold State.findLot
  rw [List.find?_isSome]
  constructor
  · rintro ⟨j, _, hj⟩
    obtain ⟨l, hl, hcode⟩ := Option.any_eq_true .. |>.mp hj
    exact ⟨j, l, hl, by simpa using hcode⟩
  · rintro ⟨j, l, hl, hcode⟩
    exact ⟨j, List.mem_finRange j, by simp [hl, hcode]⟩

theorem currentOf_eq_none (h : ∀ j m, s.lot j = some m → m.state = .current → m.kind ≠ kind) :
    s.currentOf kind = none := by
  cases hc : s.currentOf kind with
  | none => rfl
  | some x =>
    obtain ⟨hm, hstate, hkind⟩ := currentOf_some (j := x.1) (m := x.2) hc
    exact absurd hkind (h _ _ hm hstate)

theorem currentOf_eq_some {j : Fin 16} {m : Lot} (hm : s.lot j = some m) (hstate : m.state = .current)
    (hkind : m.kind = kind)
    (honly : ∀ j' m', s.lot j' = some m' → m'.state = .current → m'.kind = kind → j' = j) :
    s.currentOf kind = some (j, m) := by
  cases hc : s.currentOf kind with
  | none => exact absurd hkind (currentOf_none hc hm hstate)
  | some x =>
    obtain ⟨i, m'⟩ := x
    obtain ⟨hm', hstate', hkind'⟩ := currentOf_some hc
    have hi := honly i m' hm' hstate' hkind'
    subst hi
    rw [Option.some.inj (hm'.symm.trans hm)]

/-! ### The acts -/

theorem makeCurrentAct_none (h : s.lot k = none) : makeCurrentAct p k s = .refuse .state := by
  unfold makeCurrentAct
  rw [h]

theorem makeCurrentAct_some {l : Lot} (h : s.lot k = some l) : makeCurrentAct p k s =
    if l.state ≠ .defined then .refuse .state
    else match s.currentOf l.kind with
      | none => .done (s.setLot k (some (l.into .current))) .ok []
      | some (j, m) =>
        if s.heldByOther p (.lot j) then .refuse .held
        else .done ((s.setLot j (some (m.into (.retiring s.day.desk.crossoverDays)))).setLot k
          (some (l.into .current))) .ok [] := by
  unfold makeCurrentAct
  rw [h] <;> rfl

theorem makeCurrentAct_first {l : Lot} (h : s.lot k = some l) (hs : l.state = .defined)
    (hc : s.currentOf l.kind = none) :
    makeCurrentAct p k s = .done (s.setLot k (some (l.into .current))) .ok [] := by
  rw [makeCurrentAct_some h, if_neg (not_not.mpr hs), hc]

theorem makeCurrentAct_next {l m : Lot} {j : Fin 16} (h : s.lot k = some l) (hs : l.state = .defined)
    (hc : s.currentOf l.kind = some (j, m)) : makeCurrentAct p k s =
      if s.heldByOther p (.lot j) then .refuse .held
      else .done ((s.setLot j (some (m.into (.retiring s.day.desk.crossoverDays)))).setLot k
        (some (l.into .current))) .ok [] := by
  rw [makeCurrentAct_some h, if_neg (not_not.mpr hs), hc]
end

/-- Settles O31: the slot and the code free, or not; the predecessor none, held by the other port, or free. -/
theorem defineLotAndMakeCurrent : Obligations.DefineLotAndMakeCurrent := by
  refine ⟨fun s p k code kind refs hlow hhigh hrefs hx hok => ?_, fun s p k hx hok => ?_⟩
  · have hp := parseDefineLot_bytes (k := k) (kind := kind) hlow hhigh hrefs
    have hl := defineLot_length (k := k) (code := code) (kind := kind) (refs := refs)
    refine ⟨fun hlot => ?_, fun hlot hcode => ?_, fun hlot hcode => ?_⟩
    · exact command_refuses rfl hx hl hp hok (if_pos (Option.isSome_iff_ne_none.mpr hlot))
    · exact command_refuses rfl hx hl hp hok
        ((if_neg (by rw [hlot]; exact nofun)).trans (if_pos (findLot_isSome.mpr hcode)))
    · have hno : ¬ (s.findLot code).isSome = true := fun h => by
        obtain ⟨j, l, hj, heq⟩ := findLot_isSome.mp h
        exact hcode j l hj heq
      exact command_done rfl hx hl hp hok ((if_neg (by rw [hlot]; exact nofun)).trans (if_neg hno))
  · have hp := parseIndex_slot k
    refine ⟨fun h => command_refuses rfl hx rfl hp hok (makeCurrentAct_none h), fun l h => ⟨fun hs => ?_, fun hs hno => ?_,
      fun j m hs hm hstate hkind honly => ⟨fun hheld => ?_, fun hfree => ?_⟩⟩⟩
    · exact command_refuses rfl hx rfl hp hok ((makeCurrentAct_some h).trans (if_pos hs))
    · exact command_done rfl hx rfl hp hok (makeCurrentAct_first h hs (currentOf_eq_none hno))
    · exact command_refuses rfl hx rfl hp hok ((makeCurrentAct_next h hs
        (currentOf_eq_some hm hstate hkind honly)).trans (if_pos (heldByOther_iff.mpr hheld)))
    · exact command_done rfl hx rfl hp hok ((makeCurrentAct_next h hs
        (currentOf_eq_some hm hstate hkind honly)).trans (if_neg (mt heldByOther_iff.mp hfree)))

/-! ### The edits of a slot -/

theorem parseCorrection_bytes (k : Fin 16) (v : Fin 12) (a b : Byte) :
    parseCorrection [byte k.val, byte v.val, a, b] =
      if -500 ≤ int16 a b ∧ int16 a b ≤ 500 then .ok (k, v, int16 a b) else .error .range := by
  simp only [parseCorrection, indexOf_set, indexOf_value, check, within_iff]
  by_cases h : -500 ≤ int16 a b ∧ int16 a b ≤ 500
  · rw [if_pos h, if_pos h]
    rfl
  · rw [if_neg h, if_neg h]
    rfl

section
variable {s : State} {k : Fin 16} {l : Lot}

theorem retireLotAct_dead (h : ∀ l, s.lot k = some l → l.state = .retired) : retireLotAct k s = .refuse .state := by
  unfold retireLotAct
  split
  · rfl
  · next l hl => exact if_pos (h l hl)

theorem retireLotAct_live (hl : s.lot k = some l) (h : l.state ≠ .retired) :
    retireLotAct k s = .done (s.setLot k (some (l.into .retired))) .ok [] := by
  unfold retireLotAct
  rw [hl]
  exact if_neg h

theorem writeCorrectionAct_dead {v : Fin 12} {x : Int} (h : ∀ l, s.lot k = some l → l.state = .retired) :
    writeCorrectionAct k v x s = .refuse .state := by
  unfold writeCorrectionAct
  split
  · rfl
  · next l hl => exact if_pos (h l hl)

theorem writeCorrectionAct_live {v : Fin 12} {x : Int} (hl : s.lot k = some l) (h : l.state ≠ .retired) :
    writeCorrectionAct k v x s = .done (s.setLot k (some { l with pending := l.pending.set v x })) .ok [] := by
  unfold writeCorrectionAct
  rw [hl]
  exact if_neg h

theorem adoptProposalAct_dead (h : ∀ l, s.lot k = some l → l.state = .retired) :
    adoptProposalAct k s = .refuse .state := by
  unfold adoptProposalAct
  split
  · rfl
  · next l hl => exact if_pos (h l hl)

theorem adoptProposalAct_live (hl : s.lot k = some l) (h : l.state ≠ .retired) : adoptProposalAct k s =
    match l.proposal with
    | none => .refuse .notFound
    | some q => .done (s.setLot k (some { l with pending := adopted l.pending q, proposal := none })) .ok [] := by
  unfold adoptProposalAct
  rw [hl]
  exact if_neg h

theorem adoptProposalAct_none (hl : s.lot k = some l) (h : l.state ≠ .retired) (hq : l.proposal = none) :
    adoptProposalAct k s = .refuse .notFound := by
  rw [adoptProposalAct_live hl h, hq]

theorem adoptProposalAct_some {q : Table (Option Int) 12} (hl : s.lot k = some l) (h : l.state ≠ .retired)
    (hq : l.proposal = some q) : adoptProposalAct k s =
      .done (s.setLot k (some { l with pending := adopted l.pending q, proposal := none })) .ok [] := by
  rw [adoptProposalAct_live hl h, hq]

theorem clearLotAct_none (hl : s.lot k = none) : clearLotAct k s = .refuse .state := by
  unfold clearLotAct
  rw [hl]

theorem clearLotAct_some (hl : s.lot k = some l) : clearLotAct k s =
    if l.state = .retired then .done ((s.dropLotAlerts k l).setLot k none) .ok [] else .refuse .state := by
  unfold clearLotAct
  rw [hl]

theorem clearLot_quiet (s : State) (k : Fin 16) (l : Lot) :
    ((s.dropLotAlerts k l).setLot k none).quiet = (s.setLot k none).quiet := by
  have hdrop := quiet_setLot (State.departAll_quiet (s.setLot k (some { l with waiting := Table.fill 12 none }))
    ((s.setLot k (some { l with waiting := Table.fill 12 none })).entriesOf (.lot k))) k none
  rw [setLot_setLot] at hdrop
  exact hdrop
end

/-- Settles O32: each command on a live slot and on a dead one. -/
theorem lotEdits : Obligations.LotEdits := by
  intro s p k done refused live dead
  have hslot := parseIndex_slot k
  refine ⟨fun hx hok => ⟨fun hd => ?_, fun l ⟨hl, hs⟩ => ?_⟩, fun v a b hx hok => ⟨fun hout => ?_, fun hlow hhigh => ?_⟩,
    fun hx hok => ⟨fun hd => ?_, fun l ⟨hl, hs⟩ => ⟨fun hq => ?_, fun q hq => ?_⟩⟩,
    fun hx hok => ⟨fun hl => ?_, fun l ⟨hl, hs⟩ => ?_, fun l hl hs => ?_⟩⟩
  · exact command_refuses rfl hx rfl hslot hok (retireLotAct_dead hd)
  · exact command_done rfl hx rfl hslot hok (retireLotAct_live hl hs)
  · exact command_parse rfl hx rfl ((parseCorrection_bytes k v a b).trans (if_neg (by omega)))
  · have hp := (parseCorrection_bytes k v a b).trans (if_pos ⟨hlow, hhigh⟩)
    exact ⟨fun hd => command_refuses rfl hx rfl hp hok (writeCorrectionAct_dead hd),
      fun l ⟨hl, hs⟩ => command_done rfl hx rfl hp hok (writeCorrectionAct_live hl hs)⟩
  · exact command_refuses rfl hx rfl hslot hok (adoptProposalAct_dead hd)
  · exact command_refuses rfl hx rfl hslot hok (adoptProposalAct_none hl hs hq)
  · exact command_done rfl hx rfl hslot hok (adoptProposalAct_some hl hs hq)
  · exact command_refuses rfl hx rfl hslot hok (clearLotAct_none hl)
  · exact command_refuses rfl hx rfl hslot hok ((clearLotAct_some hl).trans (if_neg hs))
  · refine ⟨_, command_done rfl hx rfl hslot hok ((clearLotAct_some hl).trans (if_pos hs)), ?_, ?_, fun _ e he => ?_, rfl⟩
    · rw [State.lot, State.answer_lots]
      exact Table.get_set_self ..
    · exact quiet_answer (clearLot_quiet s k l) ..
    · rw [State.answer_alerts] at he
      exact dropLotAlerts_clears s k l e he

/-! ### The desk settings -/

theorem parseDesk_bytes {d : Desk} (h : d.inRange = true) : parseDesk d.bytes = .ok d := by
  rw [parseDesk, deskOf_bytes h]
  show (check d.inRange .range >>= fun _ => Except.ok d) = _
  rw [h]
  rfl

section
variable {l1 l2 w m q c t o x : Byte}

theorem dayModeOf_none (h : 3 ≤ m.toNat) : dayModeOf m = none := by
  unfold dayModeOf
  rw [if_neg, if_neg, if_neg]
  all_goals
    rintro rfl
    exact absurd h (by decide)

theorem dayModeOf_some (h : m.toNat < 3) : ∃ mode, dayModeOf m = some mode := by
  have hm : m = 0 ∨ m = 1 ∨ m = 2 := by
    simp only [← BitVec.toNat_inj]
    show m.toNat = 0 ∨ m.toNat = 1 ∨ m.toNat = 2
    omega
  rcases hm with rfl | rfl | rfl
  · exact ⟨.alone, rfl⟩
  · exact ⟨.leader, rfl⟩
  · exact ⟨.follower, rfl⟩

theorem parseDesk_noMode (h : 3 ≤ m.toNat) : parseDesk [l1, l2, w, m, q, c, t, o, x] = .error .badParam := by
  simp only [parseDesk, deskOf, dayModeOf_none h]
  rfl

theorem parseDesk_outside (h : m.toNat < 3)
    (hout : nat16 l1 l2 < 600 ∨ 2160 < nat16 l1 l2 ∨ w.toNat ∉ [25, 50, 75, 100] ∨ q.toNat < 3 ∨ 24 < q.toNat ∨
      c.toNat ∉ [50, 60, 75, 90] ∨ t.toNat < 10 ∨ 200 < t.toNat ∨ o.toNat < 1 ∨ 7 < o.toNat ∨ x.toNat < 1 ∨
      7 < x.toNat) : parseDesk [l1, l2, w, m, q, c, t, o, x] = .error .range := by
  obtain ⟨mode, hmode⟩ := dayModeOf_some h
  have hno : Desk.inRange ⟨nat16 l1 l2, w.toNat, mode, q.toNat, c.toNat, t.toNat, o.toNat, x.toNat⟩ = false := by
    rw [Bool.eq_false_iff]
    intro hin
    simp only [Desk.inRange, Bool.and_eq_true, decide_eq_true_eq, List.contains_iff_mem] at hin
    obtain ⟨⟨⟨⟨⟨⟨⟨⟨⟨⟨⟨h1, h2⟩, h3⟩, h4⟩, h5⟩, h6⟩, h7⟩, h8⟩, h9⟩, h10⟩, h11⟩, h12⟩ := hin
    rcases hout with h | h | h | h | h | h | h | h | h | h | h | h
    case inr.inr.inl => exact h h3
    case inr.inr.inr.inr.inr.inl => exact h h6
    all_goals omega
  simp only [parseDesk, deskOf, hmode, Option.map_some]
  show (check (Desk.inRange ⟨nat16 l1 l2, w.toNat, mode, q.toNat, c.toNat, t.toNat, o.toNat, x.toNat⟩) .range >>=
    fun _ => Except.ok _) = _
  rw [hno]
  rfl
end

/-- Settles O33: the settings in range replace the eight, the mode is looked at before the ranges. -/
theorem writeDesk : Obligations.WriteDesk := by
  refine fun s p => ⟨fun d hd hx hok => ?_, fun l1 l2 w m q c t o x hx => ⟨fun hm => ?_, fun hm hout => ?_⟩⟩
  · exact command_done rfl hx (deskBytes_length d) (parseDesk_bytes hd) hok rfl
  · exact command_parse rfl hx rfl (parseDesk_noMode hm)
  · exact command_parse rfl hx rfl (parseDesk_outside hm hout)

end Sys2Proof.Machine
end

-- ==== Proofs: the hold table ====
section
/-! PROOFS. HOLD, RENEW and RELEASE, and the ends of lease minutes (O34). -/
namespace Sys2Proof.Machine

section
variable {s : State} {p : Port} {i : Item} {lease : Nat}

/-! ### The operands -/

theorem parseHold_item (i : Item) {b : Byte} (hb : b.toNat ≤ 60) :
    (itemBytes i ++ [b]).length = 3 ∧
      parseHold (itemBytes i ++ [b]) = .ok (i, if b.toNat = 0 then 10 else b.toNat) := by
  obtain ⟨k, x, hbytes, hitem⟩ := itemOf_bytes i
  rw [hbytes]
  refine ⟨rfl, ?_⟩
  show (need (itemOf k x) .badParam >>= fun item => check (decide (b.toNat ≤ 60)) .range >>= fun _ =>
    Except.ok (item, if b.toNat = 0 then 10 else b.toNat)) = _
  rw [hitem, decide_eq_true hb]
  rfl

theorem parseRelease_item (i : Item) : (itemBytes i).length = 2 ∧ parseRelease (itemBytes i) = .ok i := by
  obtain ⟨k, x, hbytes, hitem⟩ := itemOf_bytes i
  rw [hbytes]
  refine ⟨rfl, ?_⟩
  show need (itemOf k x) .badParam = _
  rw [hitem]
  rfl

/-- The lease of HOLD and RENEW, given in minutes or by the default 0 (R162). -/
theorem lease_given {c : Command} (hlow : 1 ≤ lease) (hhigh : lease ≤ 60)
    (h : s.executes p c (itemBytes i ++ [byte lease]) ∨ (lease = 10 ∧ s.executes p c (itemBytes i ++ [0]))) :
    ∃ params, s.executes p c params ∧ params.length = 3 ∧ parseHold params = .ok (i, lease) := by
  rcases h with hx | ⟨rfl, hx⟩
  · have hbyte : (byte lease).toNat = lease := byte_toNat (by omega)
    obtain ⟨hl, hp⟩ := parseHold_item i (b := byte lease) (by omega)
    rw [hbyte, if_neg (by omega)] at hp
    exact ⟨_, hx, hl, hp⟩
  · obtain ⟨hl, hp⟩ := parseHold_item i (b := 0) (by decide)
    exact ⟨_, hx, hl, hp⟩

theorem otherPort_ne (p : Port) : otherPort p ≠ p := by cases p <;> exact nofun

/-! ### The acts by the item's holder -/

theorem holdAct_free (h : s.holder i = none) : holdAct p i lease s =
    if s.holds.length < Config.holdDepth then .done { s with holds := s.holds ++ [⟨i, p, lease⟩] } .ok [byte lease]
    else .refuse .holdFull := by
  unfold holdAct
  rw [h]

theorem holdAct_own (h : s.holder i = some p) :
    holdAct p i lease s = .done { s with holds := setLease s.holds i lease } .ok [byte lease] := by
  unfold holdAct
  rw [h]
  exact if_pos rfl

theorem holdAct_other (h : s.holder i = some (otherPort p)) : holdAct p i lease s = .refuse .held := by
  unfold holdAct
  rw [h]
  exact if_neg (otherPort_ne p)

theorem renewAct_free (h : s.holder i = none) : renewAct p i lease s = .refuse .stale := by
  unfold renewAct
  rw [h]

theorem renewAct_own (h : s.holder i = some p) :
    renewAct p i lease s = .done { s with holds := setLease s.holds i lease } .ok [byte lease] := by
  unfold renewAct
  rw [h]
  exact if_pos rfl

theorem renewAct_other (h : s.holder i = some (otherPort p)) : renewAct p i lease s = .refuse .held := by
  unfold renewAct
  rw [h]
  exact if_neg (otherPort_ne p)

theorem releaseAct_free (h : s.holder i = none) : releaseAct p i s = .refuse .stale := by
  unfold releaseAct
  rw [h]

theorem releaseAct_own (h : s.holder i = some p) :
    releaseAct p i s = .done { s with holds := freeItem s.holds i } .ok [] := by
  unfold releaseAct
  rw [h]
  exact if_pos rfl

theorem releaseAct_other (h : s.holder i = some (otherPort p)) : releaseAct p i s = .refuse .held := by
  unfold releaseAct
  rw [h]
  exact if_neg (otherPort_ne p)

/-! ### The end of a lease minute -/

theorem exec_leaseTick_some {h : Hold} (hh : s.holdOn i = some h) : exec (.leaseTick i) s = .next (
    if h.lease ≤ 1 then s.expireLease h else { s with holds := setLease s.holds i (h.lease - 1) }) := by
  have hrow : exec (.leaseTick i) s = .next (
    match s.holdOn i with
    | none => s
    | some h => if h.lease ≤ 1 then s.expireLease h else { s with holds := setLease s.holds i (h.lease - 1) }) := rfl
  rw [hrow, hh]

theorem exec_leaseTick_none (hh : s.holdOn i = none) : exec (.leaseTick i) s = .next s := by
  have hrow : exec (.leaseTick i) s = .next (
    match s.holdOn i with
    | none => s
    | some h => if h.lease ≤ 1 then s.expireLease h else { s with holds := setLease s.holds i (h.lease - 1) }) := rfl
  rw [hrow, hh]

theorem exec_leaseExpiry_some {h : Hold} (hh : s.holdOn i = some h) :
    exec (.leaseExpiry i) s = .next (if h.lease ≤ 1 then s.expireLease h else s) := by
  have hrow : exec (.leaseExpiry i) s = .next (
    match s.holdOn i with
    | none => s
    | some h => if h.lease ≤ 1 then s.expireLease h else s) := rfl
  rw [hrow, hh]

theorem exec_leaseExpiry_none (hh : s.holdOn i = none) : exec (.leaseExpiry i) s = .next s := by
  have hrow : exec (.leaseExpiry i) s = .next (
    match s.holdOn i with
    | none => s
    | some h => if h.lease ≤ 1 then s.expireLease h else s) := rfl
  rw [hrow, hh]
end

/-- Settles O34: each command by the holder of the item, each end of a minute by the lease that is left. -/
theorem holdTable : Obligations.HoldTable := by
  intro s p i lease hlow hhigh given renewed freed
  refine ⟨fun hg hok => ?_, fun hg hok => ?_, fun hx hok => ?_, fun l hh => ⟨fun h2 => ?_, fun h1 => ⟨?_, ?_⟩, fun h2 => ?_⟩,
    fun hno => ⟨exec_leaseTick_none hno, exec_leaseExpiry_none hno⟩⟩
  · obtain ⟨params, hx, hl, hp⟩ := lease_given hlow hhigh hg
    exact ⟨fun h hroom => command_done rfl hx hl hp hok ((holdAct_free h).trans (if_pos hroom)),
      fun h hfull => command_refuses rfl hx hl hp hok ((holdAct_free h).trans (if_neg (Nat.not_lt.mpr hfull))),
      fun h => command_done rfl hx hl hp hok (holdAct_own h),
      fun h => command_refuses rfl hx hl hp hok (holdAct_other h)⟩
  · obtain ⟨params, hx, hl, hp⟩ := lease_given hlow hhigh hg
    exact ⟨fun h => command_done rfl hx hl hp hok (renewAct_own h),
      fun h => command_refuses rfl hx hl hp hok (renewAct_other h),
      fun h => command_refuses rfl hx hl hp hok (renewAct_free h)⟩
  · obtain ⟨hl, hp⟩ := parseRelease_item i
    exact ⟨fun h => command_done rfl hx hl hp hok (releaseAct_own h),
      fun h => command_refuses rfl hx hl hp hok (releaseAct_other h),
      fun h => command_refuses rfl hx hl hp hok (releaseAct_free h)⟩
  · rw [exec_leaseTick_some hh, if_neg (Nat.not_le.mpr h2)]
    rfl
  · rw [exec_leaseTick_some hh, if_pos (Nat.le_of_eq h1)]
    rfl
  · rw [exec_leaseExpiry_some hh, if_pos (Nat.le_of_eq h1)]
    rfl
  · rw [exec_leaseExpiry_some hh, if_neg (Nat.not_le.mpr h2)]

end Sys2Proof.Machine
end

-- ==== Proofs: the read commands ====
section
/-! PROOFS. What each read command returns and what it changes (O35). -/
namespace Sys2Proof.Machine

section
variable {s : State} {p : Port} {n : Fin 96} {c : LineCtx}

/-! ### Searches -/

theorem find?_mid {α : Type} {f : α → Bool} {before after : List α} {a : α} (hbefore : ∀ x ∈ before, f x = false)
    (ha : f a = true) : (before ++ a :: after).find? f = some a := by
  have hnone : before.find? f = none := List.find?_eq_none.mpr fun x hx => by simp [hbefore x hx]
  rw [List.find?_append, hnone, List.find?_cons_of_pos ha]
  rfl

theorem find?_none {α : Type} {f : α → Bool} {l : List α} (h : ∀ x ∈ l, f x = false) : l.find? f = none :=
  List.find?_eq_none.mpr fun x hx => by simp [h x hx]

theorem newestFinal_none {ring : List Point} (h : ∀ q ∈ ring, q.state.isFinal = false) : newestFinal ring = none :=
  find?_none fun q hq => h q (List.mem_reverse.mp hq)

theorem newestFinal_mid {before after : List Point} {q : Point} (hq : q.state.isFinal = true)
    (hafter : ∀ x ∈ after, x.state.isFinal = false) : newestFinal (before ++ q :: after) = some q := by
  unfold newestFinal
  rw [List.reverse_append, List.reverse_cons, List.append_assoc]
  exact find?_mid (fun x hx => hafter x (List.mem_reverse.mp hx)) hq

theorem pointAt_beyond {ring : List Point} {age : Nat} (h : ring.length ≤ age) : pointAt ring age = none :=
  List.getElem?_eq_none (by rwa [List.length_reverse])

theorem pointAt_some {ring : List Point} {age : Nat} (h : age < ring.length) :
    pointAt ring age = some (ring[ring.length - 1 - age]'(by omega)) := by
  unfold pointAt
  rw [List.getElem?_reverse h, List.getElem?_eq_getElem]

/-! ### The reads of a line and of the alert list -/

theorem parsePoint_bytes (n : Fin 96) (age : Fin 20) : parsePoint [byte n.val, byte age.val] = .ok (n, age.val) := by
  have hage : (byte age.val).toNat = age.val := byte_toNat (by omega)
  show (need (indexOf 96 (byte n.val)) .badParam >>= fun n => check (decide ((byte age.val).toNat < 20)) .range >>=
    fun _ => Except.ok (n, (byte age.val).toNat)) = _
  rw [indexOf_line, hage, decide_eq_true age.isLt]
  rfl

theorem readPointAct_unused {age : Nat} (h : s.line n = none) : readPointAct n age s = .refuse .state := by
  unfold readPointAct
  rw [h]

theorem readPointAct_beyond {age : Nat} (h : s.line n = some c) (hage : c.ring.length ≤ age) :
    readPointAct n age s = .refuse .notFound := by
  unfold readPointAct
  rw [h]
  dsimp only
  rw [pointAt_beyond hage]

theorem readPointAct_point {age : Nat} (h : s.line n = some c) (hage : age < c.ring.length) :
    readPointAct n age s = .done s .ok (c.ring[c.ring.length - 1 - age]'(by omega)).bytes := by
  unfold readPointAct
  rw [h]
  dsimp only
  rw [pointAt_some hage]

theorem readDriftAct_unused (h : s.line n = none) : readDriftAct n s = .refuse .state := by
  unfold readDriftAct
  rw [h]

theorem readDriftAct_noFinal (h : s.line n = some c) (hno : newestFinal c.ring = none) :
    readDriftAct n s = .done s .nothing c.driftBytes := by
  unfold readDriftAct
  rw [h]
  dsimp only
  rw [hno]

theorem readDriftAct_final {q : Point} (h : s.line n = some c) (hq : newestFinal c.ring = some q) :
    readDriftAct n s = .done s .ok (q.driftBytes ++ c.driftBytes) := by
  unfold readDriftAct
  rw [h]
  dsimp only
  rw [hq]

theorem nextAlertAct_none (h : ∀ e ∈ s.alerts, e.ports.has p = false) :
    nextAlertAct p s = .done s .nothing (s.alertCounts p) := by
  unfold nextAlertAct
  rw [find?_none h]

theorem nextAlertAct_some {before after : List AlertEntry} {e : AlertEntry} (h : s.alerts = before ++ e :: after)
    (hbefore : ∀ x ∈ before, x.ports.has p = false) (he : e.ports.has p = true) :
    nextAlertAct p s = .done s .ok (s.alertCounts p ++ e.bytes) := by
  unfold nextAlertAct
  rw [h, find?_mid hbefore he]

/-- READ-STORE passes the common checks in every state of the store (R159). -/
theorem permits_readStore (s : State) (p : Port) : s.permits p .readStore none :=
  ⟨fun _ => rfl, fun _ => rfl, rfl, fun _ h => nomatch h⟩
end

/-- Settles O35: each read's act. -/
theorem reads : Obligations.Reads := by
  intro s p
  refine ⟨fun n hx hok => ?_, fun n age hx hok => ⟨fun h => ?_, fun c h => ⟨fun hage => ?_, fun hage => ?_⟩⟩,
    fun n hx hok => ⟨fun h => ?_, fun c h => ⟨fun hno => ?_, fun before q after hr hq hafter => ?_⟩⟩, fun k hx hok => ?_,
    fun k hx hok => ?_, fun hx hok => ?_, fun hx => ?_, fun hx hok => ?_, fun rl hx hok => ?_,
    fun hx hok => ⟨fun hno => ?_, fun before e after ha hbefore he => ?_⟩⟩
  · exact command_done rfl hx rfl (parseIndex_line n) hok rfl
  · exact command_refuses rfl hx rfl (parsePoint_bytes n age) hok (readPointAct_unused h)
  · exact command_refuses rfl hx rfl (parsePoint_bytes n age) hok (readPointAct_beyond h hage)
  · exact command_done rfl hx rfl (parsePoint_bytes n age) hok (readPointAct_point h hage)
  · exact command_refuses rfl hx rfl (parseIndex_line n) hok (readDriftAct_unused h)
  · exact command_done rfl hx rfl (parseIndex_line n) hok (readDriftAct_noFinal h (newestFinal_none hno))
  · exact command_done rfl hx rfl (parseIndex_line n) hok
      (readDriftAct_final h (by rw [hr]; exact newestFinal_mid hq hafter))
  · exact command_done rfl hx rfl (parseIndex_slot k) hok rfl
  · exact command_done rfl hx rfl (parseIndex_slot k) hok rfl
  · exact command_done rfl hx rfl rfl hok rfl
  · exact command_done rfl hx rfl rfl (permits_readStore s p) rfl
  · exact command_done rfl hx rfl rfl hok rfl
  · exact command_done rfl hx rfl (parseIndex_reader rl) hok rfl
  · exact command_done rfl hx rfl rfl hok (nextAlertAct_none hno)
  · exact command_done rfl hx rfl rfl hok (nextAlertAct_some ha hbefore he)

end Sys2Proof.Machine
end

-- ==== Proofs: attention ====
section
/-! PROOFS. The choice of a cause, GET-ATTENTION and SET-ATTENTION (O39). -/
namespace Sys2Proof.Machine

theorem Cause.mem_all (c : Cause) : c ∈ Cause.all := by cases c <;> decide

theorem Cause.all_ordered : Cause.all.Pairwise fun x y => x.code < y.code := by decide

/-- In an ordered list of causes a search finds the least cause that satisfies it. -/
theorem find?_least {f : Cause → Bool} {c : Cause} : ∀ {l : List Cause}, l.Pairwise (fun x y => x.code < y.code) → c ∈ l →
    f c = true → (∀ x ∈ l, f x = true → x = c ∨ c.code < x.code) → l.find? f = some c
  | a :: l, hl, hc, hfc, hleast => by
    obtain ⟨ha, htail⟩ := List.pairwise_cons.mp hl
    by_cases hfa : f a = true
    · rw [List.find?_cons_of_pos hfa]
      rcases List.mem_cons.mp hc with rfl | hmem
      · rfl
      · rcases hleast a List.mem_cons_self hfa with rfl | hlt
        · rfl
        · exact absurd (ha c hmem) (Nat.lt_asymm hlt)
    · rw [List.find?_cons_of_neg hfa]
      have hmem : c ∈ l := (List.mem_cons.mp hc).resolve_left fun h => hfa (h ▸ hfc)
      exact find?_least htail hmem hfc fun x hx => hleast x (List.mem_cons_of_mem a hx)

section
variable {s : State} {p : Port} {c : Cause}

/-- The causes that ask, in their order (R151). -/
def State.asking (s : State) (p : Port) : List Cause := Cause.all.filter fun c => s.request p c && (s.port p).isOpen c

theorem mem_asking : c ∈ s.asking p ↔ s.request p c = true ∧ (s.port p).masks.getLsbD c.code = true := by
  simp [State.asking, Cause.mem_all, PortUnit.isOpen]

theorem asking_ordered (s : State) (p : Port) : (s.asking p).Pairwise fun x y => x.code < y.code :=
  Cause.all_ordered.filter _

theorem chosenCause_eq (s : State) (p : Port) : s.chosenCause p =
    ((s.asking p).find? fun c => (s.port p).isHigh c).or ((s.asking p).find? fun _ => true) := by
  have hhead : ∀ l : List Cause, l.head? = l.find? fun _ => true
    | [] => rfl
    | _ :: _ => rfl
  unfold State.chosenCause
  rw [← hhead]
  show (match (s.asking p).find? fun c => (s.port p).isHigh c with
    | some c => some c
    | none => (s.asking p).head?) = _
  cases (s.asking p).find? fun c => (s.port p).isHigh c <;> rfl

theorem chosenCause_none (h : ∀ c, c ∉ s.asking p) : s.chosenCause p = none := by
  rw [chosenCause_eq, List.eq_nil_iff_forall_not_mem.mpr h]
  rfl

/-- The cause ahead of every other that asks: HIGH before LOW, and in a group the lesser code (R152). -/
theorem chosenCause_first (hc : c ∈ s.asking p)
    (h : ∀ x ∈ s.asking p, x = c ∨ ((s.port p).isHigh c = true ∧ ¬ (s.port p).isHigh x = true) ∨
      (((s.port p).isHigh c = true ↔ (s.port p).isHigh x = true) ∧ c.code < x.code)) :
    s.chosenCause p = some c := by
  rw [chosenCause_eq]
  by_cases hhigh : (s.port p).isHigh c = true
  · rw [find?_least (asking_ordered s p) hc hhigh fun x hx hf => (h x hx).imp_right fun hx =>
      hx.elim (fun hn => absurd hf hn.2) fun hlt => hlt.2]
    rfl
  · have hnone : ((s.asking p).find? fun c => (s.port p).isHigh c) = none := List.find?_eq_none.mpr fun x hx hf => by
      rcases h x hx with rfl | ⟨hc', _⟩ | ⟨hiff, _⟩
      · exact hhigh hf
      · exact hhigh hc'
      · exact hhigh (hiff.mpr hf)
    rw [hnone, find?_least (asking_ordered s p) hc rfl fun x hx _ => (h x hx).imp_right fun hx =>
      hx.elim (fun hn => absurd hn.1 hhigh) fun hlt => hlt.2]
    rfl

theorem setFlag_clear (u : PortUnit) (c : Cause) : u.setFlag c false = { u with
    closeFlag := u.closeFlag && c != .close, lapseFlag := u.lapseFlag && c != .holdLapse
    readerFlag := u.readerFlag && c != .reader, storeFlag := u.storeFlag && c != .store } := by
  obtain ⟨⟩ := u
  cases c <;> simp [PortUnit.setFlag]

theorem getAttentionAct_none (h : s.chosenCause p = none) :
    getAttentionAct p s = .done s .nothing [0xFF, s.requestSet p] := by
  unfold getAttentionAct
  rw [h]
  rfl

theorem getAttentionAct_some (h : s.chosenCause p = some c) :
    getAttentionAct p s = .done (s.setPort p ((s.port p).setFlag c false)) .ok
      [byte c.code, (s.setPort p ((s.port p).setFlag c false)).requestSet p] := by
  unfold getAttentionAct
  rw [h]

theorem parseAttention_bytes (m g : Byte) : parseAttention [m, g] =
    if m.toNat < 32 ∧ g.toNat < 32 then .ok (BitVec.ofNat 5 m.toNat, BitVec.ofNat 5 g.toNat) else .error .badParam := by
  show (check (decide (m.toNat < 32)) .badParam >>= fun _ => check (decide (g.toNat < 32)) .badParam >>= fun _ =>
    Except.ok (BitVec.ofNat 5 m.toNat, BitVec.ofNat 5 g.toNat)) = _
  by_cases hm : m.toNat < 32
  · rw [decide_eq_true hm]
    by_cases hg : g.toNat < 32
    · rw [decide_eq_true hg, if_pos ⟨hm, hg⟩]
      rfl
    · rw [decide_eq_false hg, if_neg fun h => hg h.2]
      rfl
  · rw [decide_eq_false hm, if_neg fun h => hm h.1]
    rfl
end

/-- Settles O39: the causes that ask, the one ahead of them, and the ten settings. -/
theorem attentionCommands : Obligations.AttentionCommands := by
  intro s p u asks high ahead
  have hmem : ∀ c, c ∈ s.asking p ↔ asks c := fun c => mem_asking
  refine ⟨?_, fun hx hok => ⟨fun hno => ?_, fun c hc hahead => ?_⟩, fun m g hx => ⟨fun hout => ?_, fun hm hg hok => ?_⟩⟩
  · have hattn : s.attn p = true ↔ ∃ c, c ∈ s.asking p := by simp [State.attn, State.asking, List.any_eq_true]
    exact hattn.trans (exists_congr hmem)
  · exact command_done rfl hx rfl rfl hok (getAttentionAct_none (chosenCause_none fun c => mt (hmem c).mp (hno c)))
  · intro s'
    have hchosen : s.chosenCause p = some c := chosenCause_first ((hmem c).mpr hc) fun x hx =>
      hahead x ((hmem x).mp hx)
    have hdone := getAttentionAct_some hchosen
    rw [setFlag_clear] at hdone
    exact command_done rfl hx rfl rfl hok hdone
  · exact command_parse rfl hx rfl ((parseAttention_bytes m g).trans (if_neg (by omega)))
  · exact command_done rfl hx rfl ((parseAttention_bytes m g).trans (if_pos ⟨hm, hg⟩)) hok rfl

end Sys2Proof.Machine
end

-- ==== Proofs: selections ====
section
/-! PROOFS. The beginning of a selection and a command selection (O40), a collect selection (O41). -/
namespace Sys2Proof.Machine

section
variable {s : State} {p : Port} {u : PortUnit} {x : Selection}

/-! ### Frames -/

theorem frameOf_frame {code : Byte} {params : List Byte} (h : params.length ≤ 120) :
    frameOf ([code, byte params.length] ++ params ++ checkBytes ([code, byte params.length] ++ params)) =
      some ⟨code, params⟩ := by
  have hbyte : (byte params.length).toNat = params.length := byte_toNat (by omega)
  simp only [List.cons_append, List.nil_append, frameOf, hbyte, List.take_left, List.drop_left, List.length_append,
    checkBytes_length]
  exact if_pos ⟨h, trivial, trivial⟩

theorem frameOf_none {first : Byte} {more : List Byte} (h : ∀ params : List Byte, params.length ≤ 120 →
    first :: more ≠ [first, byte params.length] ++ params ++ checkBytes ([first, byte params.length] ++ params)) :
    frameOf (first :: more) = none := by
  cases more with
  | nil => rfl
  | cons len rest =>
    refine if_neg fun ⟨hlen, hrest, hcheck⟩ => ?_
    have hparams : (rest.take len.toNat).length = len.toNat := by
      rw [List.length_take, hrest]
      omega
    have hbyte : byte (rest.take len.toNat).length = len := byte_of_toNat hparams.symm
    refine h (rest.take len.toNat) (by omega) ?_
    rw [hbyte]
    simp only [List.cons_append, List.nil_append, ← hcheck, List.take_append_drop]

/-! ### Command selections -/

theorem exec_selectionBegins (h : (s.port p).selection = none) : exec (.selectionBegins p) s =
    .next (s.setPort p { s.port p with selection := some ⟨(s.port p).stateNow, false⟩ }) := by
  have hrow : exec (.selectionBegins p) s = .next (
    match (s.port p).selection with
    | some _ => s
    | none => s.setPort p { s.port p with selection := some ⟨(s.port p).stateNow, false⟩ }) := rfl
  rw [hrow, h]

theorem exec_commandSelection {bytes : List Byte} (h : (s.port p).selection = some x)
    (hw : Instr.wellFormed (.commandSelection p bytes) = true) :
    exec (.commandSelection p bytes) s = .next (s.setPort p (endCommand (s.port p) x bytes)) := by
  have hrow : exec (.commandSelection p bytes) s =
    .next (s.endSelection p (decide (bytes.head? = some Config.collectByte)) bytes bytes.length) := rfl
  cases bytes with
  | nil => cases hw
  | cons b more =>
    have hb : b ≠ Config.collectByte := by simpa [Instr.wellFormed] using hw
    have hcommand : decide ((b :: more).head? = some Config.collectByte) = false :=
      decide_eq_false fun h => hb (Option.some.inj h)
    rw [hrow, hcommand]
    unfold State.endSelection
    rw [h]
    rfl

theorem endCommand_ignored {bytes : List Byte} (h : x.state = .notReady ∨ x.discarded = true) :
    endCommand u x bytes = u.finish (List.replicate bytes.length x.state.code) := by
  unfold endCommand
  by_cases hd : x.discarded = true
  · exact if_pos hd
  · refine (if_neg hd).trans ?_
    rw [h.resolve_right hd]

theorem endCommand_judged {bytes : List Byte} (hs : x.state ≠ .notReady) (hd : x.discarded = false) :
    endCommand u x bytes = (u.finish (List.replicate bytes.length x.state.code)).judge bytes := by
  unfold endCommand
  refine (if_neg (hd ▸ nofun)).trans ?_
  cases hx : x.state with
  | notReady => exact absurd hx hs
  | noResponse => rfl
  | ready => rfl

theorem judge_taken {bytes : List Byte} {t : Taken} (h : frameOf bytes = some t) :
    u.judge bytes = { u with executing := some t, response := none } := by
  unfold PortUnit.judge
  rw [h]

theorem judge_refused {bytes : List Byte} (h : frameOf bytes = none) :
    u.judge bytes = { u with response := some ⟨.badFrame, bytes.headD 0, []⟩ } := by
  unfold PortUnit.judge
  rw [h]
  rfl

/-! ### Collect selections -/

theorem exec_collectSelection {n : Nat} (h : (s.port p).selection = some x) (hn : 1 ≤ n) :
    exec (.collectSelection p n) s = .next (s.endCollect p x n) := by
  have hrow : exec (.collectSelection p n) s = .next (s.endSelection p true [] n) := rfl
  rw [hrow]
  unfold State.endSelection
  rw [h]
  exact congrArg Host.Outcome.next ((if_neg (by omega)).trans (if_pos rfl))

theorem endCollect_idle {n : Nat} (h : x.state ≠ .ready) :
    s.endCollect p x n = s.setPort p ((s.port p).finish (List.replicate n x.state.code)) := by
  unfold State.endCollect
  cases hx : x.state with
  | ready => exact absurd hx h
  | noResponse => rfl
  | notReady => rfl

theorem endCollect_ready {n : Nat} (h : x.state = .ready) : s.endCollect p x n =
    if x.discarded then
      { s.setPort p ((s.port p).finish
          (x.state.code :: (List.range (n - 1)).map fun i => Config.freeByte (s.freeCount + i))) with
        freeCount := s.freeCount + (n - 1) }
    else
      match (s.port p).response with
      | some r => s.setPort p ((s.port p).collect r.frame n)
      | none => s.setPort p ((s.port p).collect [] n) := by
  unfold State.endCollect
  rw [h] <;> rfl

theorem endCollect_response {n : Nat} {r : Response} (h : x.state = .ready) (hd : x.discarded = false)
    (hr : (s.port p).response = some r) : s.endCollect p x n = s.setPort p ((s.port p).collect r.frame n) := by
  rw [endCollect_ready h, if_neg (hd ▸ nofun), hr]

theorem padded_short {frame : List Byte} {n : Nat} (h : n ≤ frame.length) : padded frame n = frame.take n :=
  List.take_append_of_le_length h

theorem padded_long {frame : List Byte} {n : Nat} (h : frame.length ≤ n) :
    padded frame n = frame ++ List.replicate (n - frame.length) 0xE0 :=
  List.take_of_length_le (by simp; omega)

theorem collect_part {frame : List Byte} {n : Nat} (hn : 1 ≤ n) (h : n ≤ frame.length) :
    u.collect frame n = u.finish (0xE2 :: frame.take (n - 1)) := by
  have hpart : ¬ frame.length ≤ n - 1 := by omega
  rw [PortUnit.collect, if_neg hpart, padded_short (by omega)]
  rfl

theorem collect_whole {frame : List Byte} {n : Nat} (h : frame.length < n) : u.collect frame n =
    { u.finish (0xE2 :: frame ++ List.replicate (n - 1 - frame.length) 0xE0) with response := none } := by
  have hwhole : frame.length ≤ n - 1 := by omega
  rw [PortUnit.collect, if_pos hwhole, padded_long hwhole]
  rfl
end

/-- Settles O40: a selection that is ignored, one with a frame that passes and one without. -/
theorem commandSelections : Obligations.CommandSelections := by
  intro s p u
  refine ⟨exec_selectionBegins, fun x bytes hx hw => ?_⟩
  rw [exec_commandSelection hx hw]
  refine ⟨fun hno => ?_, fun code params hs hd hlen hbytes => ?_, fun first more hs hd hbytes hno => ?_⟩
  · rw [endCommand_ignored hno]
    rfl
  · rw [endCommand_judged hs hd, judge_taken (hbytes ▸ frameOf_frame hlen)]
    rfl
  · have hframe : frameOf bytes = none := by
      subst hbytes
      exact frameOf_none hno
    have hfirst : bytes.headD 0 = first := by rw [hbytes]; rfl
    rw [endCommand_judged hs hd, judge_refused hframe, hfirst]
    rfl

/-- Settles O41: the state byte alone, the free bytes, or the response in part or whole. -/
theorem collectSelections : Obligations.CollectSelections := by
  intro s p x n u hn hx
  rw [exec_collectSelection hx hn]
  refine ⟨fun hs => ?_, fun hs hd => ?_, ?_⟩
  · rw [endCollect_idle hs]
    rfl
  · refine ⟨(List.range (n - 1)).map fun i => Config.freeByte (s.freeCount + i), by simp, ?_⟩
    rw [endCollect_ready hs, if_pos hd, hs]
    rfl
  · intro r hs hd hr covered frame
    rw [endCollect_response hs hd hr]
    refine ⟨fun hpart => ?_, fun hwhole => ?_⟩
    · rw [collect_part (frame := r.frame) hn hpart]
      rfl
    · rw [collect_whole (frame := r.frame) hwhole]
      rfl

end Sys2Proof.Machine
end

-- ==== Proofs: the hold a command needs ====
section
/-! PROOFS. A command whose item the caller does not hold (O43). -/
namespace Sys2Proof.Machine

theorem locked_zero (c : Command) : c.locked 0 = false := by cases c <;> rfl

section
variable {α : Type} {row : Instr} {c : Command} {p : Port} {s : State} {parse : List Byte → Except Status α}
  {item : α → Option Item} {act : α → State → Answer} {params : List Byte} {a : α} {i : Item}

/-- With the store IDLE and level 0 the hold alone can refuse a command that is well formed (R159). -/
theorem commonRefusal_idle (hs : s.store.phase = .idle) (hl : s.level = 0) (c : Command) (item : Option Item) :
    commonRefusal s p c item = holdRefusal s p item := by
  have hload : s.store.loading = false := by simp [Store.loading, hs]
  have hsave : s.store.isSaving = false := by simp [Store.isSaving, hs]
  simp [commonRefusal, hload, hsave, hl, locked_zero]

/-- What a command answers when its item is nobody's, and when it is the other port's (R165). -/
def AsksHold (s : State) (p : Port) (row : Instr) (c : Command) (i : Item) : Prop :=
  (s.holder i = none → exec row s = .next (s.answer p c.code .notHeld [])) ∧
  (s.holder i = some (otherPort p) → exec row s = .next (s.answer p c.code .held []))

theorem asksHold (hs : s.store.phase = .idle) (hlevel : s.level = 0)
    (hrow : exec row s = .next (runCommand c p s parse item act)) (hx : s.executes p c params)
    (hl : params.length = c.paramLen) (hp : parse params = .ok a) (hitem : item a = some i) : AsksHold s p row c i := by
  have hcommon : commonRefusal s p c (item a) = holdRefusal s p (some i) := by
    rw [commonRefusal_idle hs hlevel, hitem]
  refine ⟨fun h => command_common hrow hx hl hp ?_, fun h => command_common hrow hx hl hp ?_⟩
  · rw [hcommon, holdRefusal, h]
  · rw [hcommon, holdRefusal, h]
    exact if_neg (otherPort_ne p)
end

theorem parsePreload_flag (k : Fin 16) (m : Bool) : parsePreload [byte k.val, flagByte m] = .ok (k, m) := by
  simp only [parsePreload, indexOf_set, flagOf_flagByte]
  rfl

/-- Settles O43: each command's operands name the item. -/
theorem holdsNeeded : Obligations.HoldsNeeded := by
  intro s p ready straps c params i hx hs hlevel hcase
  show AsksHold s p (c.row p ready straps) c i
  rcases hcase with ⟨n, rfl, rfl, hc⟩ | ⟨k, rfl, rfl, rfl⟩ | ⟨k, rfl, rfl, hc⟩ | ⟨n, k, rfl, rfl, rfl⟩ |
    ⟨n, a, b, rfl, rfl, rfl⟩ | ⟨k, m, rfl, rfl, rfl⟩ | ⟨k, v, o1, o2, a1, a2, b1, b2, c1, c2, d1, d2, rfl, rfl, rfl⟩ |
    ⟨k, kind, r, l, x, rfl, rfl, rfl⟩ | ⟨k, code, kind, refs, rfl, hlow, hhigh, hrefs, rfl, rfl⟩ |
    ⟨k, v, a, b, rfl, hlow, hhigh, rfl, rfl⟩ | ⟨d, rfl, hd, rfl, rfl⟩
  · rcases hc with rfl | rfl | rfl
    · exact asksHold hs hlevel rfl hx rfl (parseIndex_line n) rfl
    · exact asksHold hs hlevel rfl hx rfl (parseIndex_line n) rfl
    · exact asksHold hs hlevel rfl hx rfl (parseIndex_line n) rfl
  · exact asksHold hs hlevel rfl hx rfl (parseIndex_slot k) rfl
  · rcases hc with rfl | rfl | rfl | rfl
    · exact asksHold hs hlevel rfl hx rfl (parseIndex_slot k) rfl
    · exact asksHold hs hlevel rfl hx rfl (parseIndex_slot k) rfl
    · exact asksHold hs hlevel rfl hx rfl (parseIndex_slot k) rfl
    · exact asksHold hs hlevel rfl hx rfl (parseIndex_slot k) rfl
  · exact asksHold hs hlevel rfl hx rfl (parseSetLineAim_bytes n k) rfl
  · exact asksHold hs hlevel rfl hx rfl (parseVoid_bytes n a b) rfl
  · exact asksHold hs hlevel rfl hx rfl (parsePreload_flag k m) rfl
  · exact asksHold hs hlevel rfl hx rfl (parseWriteAim_bytes k v o1 o2 a1 a2 b1 b2 c1 c2 d1 d2) rfl
  · exact asksHold hs hlevel rfl hx rfl (parseAimRules_bytes k kind r l x) rfl
  · exact asksHold hs hlevel rfl hx defineLot_length (parseDefineLot_bytes hlow hhigh hrefs) rfl
  · exact asksHold hs hlevel rfl hx rfl ((parseCorrection_bytes k v a b).trans (if_pos ⟨hlow, hhigh⟩)) rfl
  · exact asksHold hs hlevel rfl hx (deskBytes_length d) (parseDesk_bytes hd) rfl

end Sys2Proof.Machine
end

-- ==== Proofs: offers and departures ====
section
/-! PROOFS. The cases of an offer, the places of the waiting kinds, and a departure with its moving in (O37). -/
namespace Sys2Proof.Machine

/-! ### Ordered lists -/

theorem split_ordered {α : Type} {r : α → α → Prop} {l : List α} {a : α} (hl : l.Pairwise r) (ha : a ∈ l) :
    ∃ before after, l = before ++ a :: after ∧ ∀ x ∈ before, r x a := by
  obtain ⟨before, after, rfl⟩ := List.append_of_mem ha
  obtain ⟨_, _, hcross⟩ := List.pairwise_append.mp hl
  exact ⟨before, after, rfl, fun x hx => hcross x hx a List.mem_cons_self⟩

theorem find?_finRange {n : Nat} {f : Fin n → Bool} {k : Fin n} (hk : f k = true) (hlow : ∀ j, j < k → f j = false) :
    (List.finRange n).find? f = some k := by
  obtain ⟨before, after, hl, hbefore⟩ := split_ordered (List.pairwise_lt_finRange n) (List.mem_finRange k)
  rw [hl]
  exact find?_mid (fun j hj => hlow j (hbefore j hj)) hk

/-- The keys of a line stand in the order of their ranks (R144). -/
theorem lineKeys_ordered (n : Fin 96) :
    (((List.finRange 12).map fun v => (⟨.line n, some v⟩ : Key)) ++ [(⟨.line n, none⟩ : Key)]).Pairwise
      fun x y => scanRank x < scanRank y := by
  refine List.pairwise_append.mpr ⟨List.pairwise_map.mpr ((List.pairwise_lt_finRange 12).imp fun {v w} h => ?_),
    List.pairwise_singleton .., fun x hx y hy => ?_⟩
  · exact Nat.add_lt_add_left h _
  · obtain ⟨v, _, rfl⟩ := List.mem_map.mp hx
    rw [List.mem_singleton.mp hy]
    exact Nat.add_lt_add_left v.isLt _

theorem lineKeys_rank {n : Fin 96} {k : Key}
    (h : k ∈ ((List.finRange 12).map fun v => (⟨.line n, some v⟩ : Key)) ++ [⟨.line n, none⟩]) :
    13 * n.val ≤ scanRank k ∧ scanRank k < 13 * n.val + 13 := by
  rcases List.mem_append.mp h with h | h
  · obtain ⟨v, _, rfl⟩ := List.mem_map.mp h
    simp only [scanRank]
    omega
  · rw [List.mem_singleton.mp h]
    simp only [scanRank]
    omega

theorem lotKeys_rank {l : Fin 16} {k : Key} (h : k ∈ (List.finRange 12).map fun v => (⟨.lot l, some v⟩ : Key)) :
    1248 + 12 * l.val ≤ scanRank k ∧ scanRank k < 1248 + 12 * l.val + 12 := by
  obtain ⟨v, _, rfl⟩ := List.mem_map.mp h
  simp only [scanRank]
  omega

theorem scanKeys_ordered : scanKeys.Pairwise fun x y => scanRank x < scanRank y := by
  refine List.pairwise_append.mpr ⟨List.pairwise_flatMap.mpr ⟨fun n _ => lineKeys_ordered n,
    (List.pairwise_lt_finRange 96).imp fun {n m} h x hx y hy => ?_⟩,
    List.pairwise_flatMap.mpr ⟨fun l _ => List.pairwise_map.mpr ((List.pairwise_lt_finRange 12).imp fun {v w} h =>
      Nat.add_lt_add_left h _), (List.pairwise_lt_finRange 16).imp fun {l m} h x hx y hy => ?_⟩, fun x hx y hy => ?_⟩
  · have hnm : n.val < m.val := h
    have hx' := lineKeys_rank hx
    have hy' := lineKeys_rank hy
    omega
  · have hlm : l.val < m.val := h
    have hx' := lotKeys_rank hx
    have hy' := lotKeys_rank hy
    omega
  · obtain ⟨n, _, hx⟩ := List.mem_flatMap.mp hx
    obtain ⟨l, _, hy⟩ := List.mem_flatMap.mp hy
    have hx' := lineKeys_rank hx
    have hy' := lotKeys_rank hy
    omega

section
variable {s : State} {o : Offer}

/-! ### An offer -/

theorem empty_iff {q : PortSet} : q.empty = true ↔ q = ⟨false, false⟩ := by
  obtain ⟨a, b⟩ := q
  simp [PortSet.empty]

theorem freeNumber_least {k : Fin 32} (hk : ∀ e ∈ s.alerts, e.number ≠ k)
    (hlow : ∀ j : Fin 32, j < k → ∃ e ∈ s.alerts, e.number = j) : s.freeNumber = some k :=
  find?_finRange (by simpa using hk) fun j hj => by simpa using hlow j hj

theorem createEntry_eq {k : Fin 32} (h : s.freeNumber = some k) (key : Key) (kind : AlertKind) (day : Nat)
    (amount : Option Int) (ports : PortSet) : s.createEntry key kind day amount ports = { s with
      serials := s.serials.set k (s.serials.get k + 1)
      alerts := s.alerts ++ [⟨k, s.serials.get k + 1, key, kind, day, amount, 1, ports⟩] } := by
  unfold State.createEntry
  rw [h]

theorem offer_unwanted (h : (s.subscribers o.kind).empty = true) : s.offer o =
    match s.entryAt o.key with
    | some e => (s.setWaiting o.key none).depart e.number
    | none => s.setWaiting o.key none := if_pos h

theorem offer_wanted (h : ¬ (s.subscribers o.kind).empty = true) : s.offer o =
    match s.entryAt o.key with
    | some e => s.merge e o
    | none =>
      if s.alerts.length < Config.listDepth then s.createEntry o.key o.kind o.day o.amount (s.subscribers o.kind)
      else s.setWaiting o.key (some o.kind) := if_neg h

theorem offer_drops {e : AlertEntry} (h : (s.subscribers o.kind).empty = true) (he : s.entryAt o.key = some e) :
    s.offer o = (s.setWaiting o.key none).depart e.number := by
  rw [offer_unwanted h, he]

theorem offer_clears (h : (s.subscribers o.kind).empty = true) (he : s.entryAt o.key = none) :
    s.offer o = s.setWaiting o.key none := by
  rw [offer_unwanted h, he]

theorem offer_merges {e : AlertEntry} (h : ¬ (s.subscribers o.kind).empty = true) (he : s.entryAt o.key = some e) :
    s.offer o = s.merge e o := by
  rw [offer_wanted h, he]

theorem offer_enters (h : ¬ (s.subscribers o.kind).empty = true) (he : s.entryAt o.key = none) : s.offer o =
    if s.alerts.length < Config.listDepth then s.createEntry o.key o.kind o.day o.amount (s.subscribers o.kind)
    else s.setWaiting o.key (some o.kind) := by
  rw [offer_wanted h, he]

theorem merge_mid {before after : List AlertEntry} {e : AlertEntry} (h : s.alerts = before ++ e :: after)
    (hnum : ∀ x ∈ before ++ after, x.number ≠ e.number) : s.merge e o = { s with
      serials := s.serials.set e.number (s.serials.get e.number + 1)
      alerts := before ++ after ++ [⟨e.number, s.serials.get e.number + 1, e.key, o.kind, o.day, o.amount,
        satSucc 255 e.repeats, s.subscribers o.kind⟩] } := by
  have hrest : (s.alerts.filter fun x => x.number != e.number) = before ++ after := by
    have hkeep : ((before ++ after).filter fun x => x.number != e.number) = before ++ after :=
      List.filter_eq_self.mpr fun x hx => by simpa using hnum x hx
    rw [h, List.filter_append, List.filter_cons_of_neg (by simp), ← List.filter_append, hkeep]
  unfold State.merge
  rw [hrest]

/-! ### A departure -/

theorem setWaiting_leaving (s : State) (k : Key) (w : Option AlertKind) (es : List AlertEntry) :
    ({ s with alerts := es } : State).setWaiting k w = { s.setWaiting k w with alerts := es } := by
  obtain hno | ⟨n, v, c, rfl, hc⟩ | ⟨i, v, l, rfl, hl⟩ := place_cases s k
  · rw [(setWaiting_noPlace hno w).1, (setWaiting_noPlace (s := { s with alerts := es }) hno w).1]
  · rw [setWaiting_line hc, setWaiting_line (s := { s with alerts := es }) hc]
    rfl
  · rw [setWaiting_lot hl, setWaiting_lot (s := { s with alerts := es }) hl]
    rfl

theorem setWaiting_day (s : State) (k : Key) (w : Option AlertKind) : (s.setWaiting k w).day = s.day := by
  obtain ⟨_, _, _, _, _, _, hday, _⟩ := State.quiet_fields (State.setWaiting_quiet s k w)
  exact hday

theorem moveIn_nothing (h : ∀ k, s.waitingAt k = none) (ks : List Key) : moveIn ks s = s := by
  have hall := moveIn_append ks [] s fun k _ => h k
  rwa [List.append_nil] at hall

theorem moveIn_drops {key : Key} {kind : AlertKind} {ks : List Key} (h : s.waitingAt key = some kind)
    (ht : (s.subscribers kind).empty = true) : moveIn (key :: ks) s = moveIn ks (s.setWaiting key none) := by
  rw [moveIn, h]
  exact if_pos ht

theorem moveIn_enters {key : Key} {kind : AlertKind} {ks : List Key} (h : s.waitingAt key = some kind)
    (ht : ¬ (s.subscribers kind).empty = true) : moveIn (key :: ks) s =
      (s.setWaiting key none).createEntry key kind s.day.number none (s.subscribers kind) := by
  rw [moveIn, h]
  exact if_neg ht

theorem moveIn_passes {key : Key} {ks : List Key} (h : s.waitingAt key = none) : moveIn (key :: ks) s = moveIn ks s := by
  rw [moveIn, h]

/-- The scan stops at the first waiting kind. -/
theorem scanKeys_first {key : Key} {kind : AlertKind} (h : s.waitingAt key = some kind)
    (hfirst : ∀ j, s.waitingAt j ≠ none → scanRank key ≤ scanRank j) :
    ∃ before after, scanKeys = before ++ key :: after ∧ (∀ j ∈ before, s.waitingAt j = none) ∧
      ∀ j ∈ before, j ≠ key := by
  obtain ⟨before, after, hscan, hbefore⟩ := split_ordered scanKeys_ordered (mem_scanKeys (k := key) (by rw [h]; exact nofun))
  refine ⟨before, after, hscan, fun j hj => ?_, fun j hj heq => absurd (hbefore j hj) (heq ▸ Nat.lt_irrefl _)⟩
  by_contra hne
  exact absurd (hbefore j hj) (Nat.not_lt.mpr (hfirst j hne))

theorem depart_drops {key : Key} {kind : AlertKind} (number : Fin 32) (h : s.waitingAt key = some kind)
    (hfirst : ∀ j, s.waitingAt j ≠ none → scanRank key ≤ scanRank j) (ht : (s.subscribers kind).empty = true) :
    s.depart number = (s.setWaiting key none).depart number := by
  obtain ⟨before, after, hscan, hnone, hne⟩ := scanKeys_first h hfirst
  have hcleared : ∀ j ∈ before, (s.setWaiting key none).waitingAt j = none := fun j hj => by
    rw [waitingAt_setWaiting_other (hne j hj)]
    exact hnone j hj
  have hthere : (s.setWaiting key none).depart number =
      moveIn after { s.setWaiting key none with alerts := s.alerts.filter fun e => e.number != number } := by
    unfold State.depart
    rw [hscan, State.setWaiting_alerts]
    exact (moveIn_append before _ { s.setWaiting key none with alerts := s.alerts.filter fun e => e.number != number }
      hcleared).trans (moveIn_passes (waitingAt_setWaiting_cleared key))
  rw [hthere, ← setWaiting_leaving]
  unfold State.depart
  rw [hscan]
  exact (moveIn_append before _ { s with alerts := s.alerts.filter fun e => e.number != number } hnone).trans
    (moveIn_drops h ht)

theorem depart_enters {key : Key} {kind : AlertKind} (number : Fin 32) {k : Fin 32} (h : s.waitingAt key = some kind)
    (hfirst : ∀ j, s.waitingAt j ≠ none → scanRank key ≤ scanRank j) (ht : ¬ (s.subscribers kind).empty = true)
    (hk : ∀ e ∈ s.alerts.filter fun e => e.number != number, e.number ≠ k)
    (hlow : ∀ j : Fin 32, j < k → ∃ e ∈ s.alerts.filter fun e => e.number != number, e.number = j) :
    s.depart number = { s.setWaiting key none with
      serials := s.serials.set k (s.serials.get k + 1)
      alerts := (s.alerts.filter fun e => e.number != number) ++
        [⟨k, s.serials.get k + 1, key, kind, s.day.number, none, 1, s.subscribers kind⟩] } := by
  obtain ⟨before, after, hscan, hnone, _⟩ := scanKeys_first h hfirst
  have hleft := setWaiting_leaving s key none (s.alerts.filter fun e => e.number != number)
  have hfree : (({ s with alerts := s.alerts.filter fun e => e.number != number } : State).setWaiting key none).freeNumber =
      some k := freeNumber_least (by rw [State.setWaiting_alerts]; exact hk) (by rw [State.setWaiting_alerts]; exact hlow)
  unfold State.depart
  rw [hscan]
  refine (moveIn_append before _ { s with alerts := s.alerts.filter fun e => e.number != number } hnone).trans
    ((moveIn_enters (s := { s with alerts := s.alerts.filter fun e => e.number != number }) h ht).trans
      ((createEntry_eq hfree ..).trans ?_))
  rw [hleft]
  simp only [State.setWaiting_serials]
  rfl
end

/-- Settles O37: the four cases of R142, the places of R143, the moving in of R144. -/
theorem offerCases : Obligations.OfferCases := by
  intro s o ports
  have hports : s.subscribers o.kind = ports := rfl
  have hempty : (s.subscribers o.kind).empty = true ↔ ports = ⟨false, false⟩ := empty_iff
  refine ⟨fun e hp he => offer_drops (hempty.mpr hp) he, fun hp hno => offer_clears (hempty.mpr hp) (entryAt_eq_none.mpr hno),
    fun before e after hp ha hkey hbefore hnum => ?_, fun k hp hno hroom hk hlow => ?_, fun hp hno hfull => ?_, rfl,
    fun os => rfl, fun n v w => ?_, fun k v w => ?_, fun number => ?_⟩
  · have he : s.entryAt o.key = some e := by
      unfold State.entryAt
      rw [ha]
      exact find?_mid (fun x hx => by simpa using hbefore x hx) (by simpa using hkey)
    exact (offer_merges (mt hempty.mp hp) he).trans (merge_mid ha hnum)
  · exact (offer_enters (mt hempty.mp hp) (entryAt_eq_none.mpr hno)).trans
      ((if_pos hroom).trans (createEntry_eq (freeNumber_least hk hlow) ..))
  · exact (offer_enters (mt hempty.mp hp) (entryAt_eq_none.mpr hno)).trans (if_neg (Nat.not_lt.mpr hfull))
  · intro i
    have hi : waitIndex v = i := by cases v <;> rfl
    refine ⟨fun hn => ?_, fun c hc => ⟨?_, ?_⟩⟩
    · obtain ⟨hsame, hnone⟩ := setWaiting_noPlace (s := s) (k := ⟨.line n, v⟩) (.inl (by simp [State.named, hn])) w
      exact ⟨hnone, hsame⟩
    · rw [State.waitingAt, ← hi]
      simp only [hc, Option.bind_some]
    · rw [setWaiting_line hc, hi]
  · refine ⟨fun hn => ?_, fun l hl => ⟨?_, setWaiting_lot hl v w⟩⟩
    · obtain ⟨hsame, hnone⟩ := setWaiting_noPlace (s := s) (k := ⟨.lot k, some v⟩) (.inl (by simp [State.named, hn])) w
      exact ⟨hnone, hsame⟩
    · rw [State.waitingAt]
      simp only [hl, Option.bind_some]
  · intro left
    refine ⟨fun hnone => moveIn_nothing (s := { s with alerts := left }) hnone scanKeys, fun key kind h hfirst => ?_⟩
    intro takers
    have htakers : (s.subscribers kind).empty = true ↔ takers = ⟨false, false⟩ := empty_iff
    exact ⟨fun ht => depart_drops number h hfirst (htakers.mpr ht), fun k ht hk hlow =>
      depart_enters number h hfirst (mt htakers.mp ht) hk hlow⟩

end Sys2Proof.Machine
end

-- ==== Proofs: acknowledgements and subscriptions ====
section
/-! PROOFS. ACK-ALERT and SET-SUBSCRIPTION (O38). -/
namespace Sys2Proof.Machine

section
variable {s : State} {p : Port} {k : Fin 32} {serial : Byte} {e : AlertEntry} {before after : List AlertEntry}

/-! ### ACK-ALERT -/

theorem parseAck_bytes (k : Fin 32) (serial : Byte) : parseAck [byte k.val, serial] = .ok (k, serial) := by
  show (need (indexOf 32 (byte k.val)) .badParam >>= fun number => Except.ok (number, serial)) = _
  rw [indexOf_byte (by decide)]
  rfl

/-- In a list with distinct numbers an entry's number stands nowhere else. -/
theorem number_ne (hnum : (s.alerts.map AlertEntry.number).Nodup) (ha : s.alerts = before ++ e :: after) :
    ∀ x ∈ before ++ after, x.number ≠ e.number := by
  rw [ha, List.map_append, List.map_cons] at hnum
  obtain ⟨_, htail, hcross⟩ := List.nodup_append.mp hnum
  obtain ⟨hafter, _⟩ := List.nodup_cons.mp htail
  intro x hx
  rcases List.mem_append.mp hx with hx | hx
  · exact hcross _ (List.mem_map_of_mem hx) _ List.mem_cons_self
  · exact fun heq => hafter (heq ▸ List.mem_map_of_mem hx)

theorem ackAlertAct_unknown (h : ∀ e ∈ s.alerts, e.number ≠ k) : ackAlertAct p k serial s = .refuse .notFound := by
  unfold ackAlertAct
  rw [find?_none fun e he => by simpa using h e he]

theorem ackAlertAct_entry (hnum : (s.alerts.map AlertEntry.number).Nodup) (ha : s.alerts = before ++ e :: after)
    (hk : e.number = k) : ackAlertAct p k serial s =
      if e.serial ≠ serial then .refuse .stale
      else if e.ports.has p then
        if (e.ports.remove p).empty then .done (s.depart k) .ok [1] else .done (s.removeClaim k p) .ok [0]
      else .done s .ok [0] := by
  have hothers := number_ne hnum ha
  have hfind : (s.alerts.find? fun x => x.number == k) = some e := by
    rw [ha]
    exact find?_mid (fun x hx => by simpa [hk] using hothers x (List.mem_append_left _ hx)) (by simpa using hk)
  unfold ackAlertAct
  rw [hfind]
  rfl

theorem remove_empty_iff {q : PortSet} (h : q.has p = true) : (q.remove p).empty = true ↔ q.has (otherPort p) = false := by
  cases p <;> simp [PortSet.remove, PortSet.empty, PortSet.has, otherPort]

theorem removeClaim_mid (hnum : (s.alerts.map AlertEntry.number).Nodup) (ha : s.alerts = before ++ e :: after)
    (hk : e.number = k) : s.removeClaim k p =
      { s with alerts := before ++ { e with ports := e.ports.remove p } :: after } := by
  have hothers := number_ne hnum ha
  have hkeep : ∀ l : List AlertEntry, (∀ x ∈ l, x ∈ before ++ after) →
      (l.map fun x => if x.number = k then { x with ports := x.ports.remove p } else x) = l := fun l hl =>
    (List.map_congr_left fun x hx => if_neg (hk ▸ hothers x (hl x hx))).trans (List.map_id' l)
  unfold State.removeClaim
  rw [ha, List.map_append, List.map_cons, hkeep before fun x hx => List.mem_append_left _ hx,
    hkeep after fun x hx => List.mem_append_right _ hx, if_pos hk]

/-! ### SET-SUBSCRIPTION -/

theorem parseKinds_bytes (a b : Byte) : parseKinds [a, b] =
    if a.toNat < 2 then .ok (BitVec.ofNat 9 (nat16 a b)) else .error .badParam := by
  have hset : nat16 a b < 512 ↔ a.toNat < 2 := by
    have hb := b.isLt
    unfold nat16
    omega
  show (check (decide (nat16 a b < 512)) .badParam >>= fun _ => Except.ok (BitVec.ofNat 9 (nat16 a b))) = _
  by_cases h : a.toNat < 2
  · rw [decide_eq_true (hset.mpr h), if_pos h]
    rfl
  · rw [decide_eq_false (mt hset.mp h), if_neg h]
    rfl

/-- The claims that stay when a port's kinds change (R141). -/
def claimsUnder (s : State) (p : Port) (kinds : BitVec 9) : List AlertEntry :=
  s.alerts.map fun (e : AlertEntry) =>
    if (s.port p).subscription.getLsbD e.kind.code = true ∧ kinds.getLsbD e.kind.code = false
    then { e with ports := e.ports.remove p } else e

/-- The state from which the entries nobody claims leave (R141). -/
def subscribedTo (s : State) (p : Port) (kinds : BitVec 9) : State :=
  { s.setPort p { s.port p with subscription := kinds } with alerts := claimsUnder s p kinds }

theorem setSubscriptionAct_eq (s : State) (p : Port) (kinds : BitVec 9) : setSubscriptionAct p kinds s =
    .done ((subscribedTo s p kinds).departAll
      (((claimsUnder s p kinds).filter fun e => e.ports.empty).map AlertEntry.number)) .ok [] := by
  have hclaims : dropClaims p (fun k => (s.port p).subscribed k && !(kinds.getLsbD k.code))
      (s.setPort p { s.port p with subscription := kinds }).alerts = claimsUnder s p kinds := by
    rw [State.setPort_alerts]
    refine List.map_congr_left fun e _ => ?_
    simp only [PortUnit.subscribed, Bool.and_eq_true, Bool.not_eq_true']
  unfold setSubscriptionAct
  simp only [hclaims]
  rfl

theorem claimsUnder_same {kinds : BitVec 9} (h : ∀ e ∈ s.alerts, e.ports.empty = false ∧
    (kinds.getLsbD e.kind.code = true ∨ (s.port p).subscription.getLsbD e.kind.code = false)) :
    claimsUnder s p kinds = s.alerts ∧ ((claimsUnder s p kinds).filter fun e => e.ports.empty) = [] := by
  have hsame : claimsUnder s p kinds = s.alerts :=
    (List.map_congr_left fun e he => if_neg fun ⟨hold, hnew⟩ => by
      obtain ⟨_, hkept⟩ := h e he
      rw [hold, hnew] at hkept
      exact hkept.elim nofun nofun).trans (List.map_id' s.alerts)
  refine ⟨hsame, ?_⟩
  rw [hsame]
  exact List.filter_eq_nil_iff.mpr fun e he hempty => by rw [(h e he).1] at hempty; cases hempty

theorem subscribedTo_quiet (s : State) (p : Port) (kinds : BitVec 9) :
    (subscribedTo s p kinds).quiet = (s.setPort p { s.port p with subscription := kinds }).quiet := rfl
end

/-- Settles O38: the entry named and its claims, and the claims of the kinds dropped. -/
theorem acknowledgeAndSubscribe : Obligations.AcknowledgeAndSubscribe := by
  intro s p hnum
  refine ⟨fun k serial hx hok => ?_, fun a b hx hok => ⟨fun hout => ?_, fun hin => ?_⟩⟩
  · have hp := parseAck_bytes k serial
    refine ⟨fun hno => command_refuses rfl hx rfl hp hok (ackAlertAct_unknown hno), fun before e after ha hk => ?_⟩
    have hact := ackAlertAct_entry (p := p) (serial := serial) hnum ha hk
    refine ⟨fun hs => ?_, fun hs hhas => ?_, fun hs hboth => ?_, fun hs hhas hother => ?_⟩
    · exact command_refuses rfl hx rfl hp hok (hact.trans (if_pos hs))
    · exact command_done rfl hx rfl hp hok (hact.trans ((if_neg (not_not.mpr hs)).trans (if_neg (hhas ▸ nofun))))
    · have hhas : ∀ q, e.ports.has q = true := fun q => by rw [hboth]; cases q <;> rfl
      have hclaimed : ¬ (e.ports.remove p).empty = true := fun h => by
        rw [remove_empty_iff (hhas p), hhas] at h
        cases h
      rw [← removeClaim_mid hnum ha hk]
      exact command_done rfl hx rfl hp hok (hact.trans ((if_neg (not_not.mpr hs)).trans ((if_pos (hhas p)).trans
        (if_neg hclaimed))))
    · exact command_done rfl hx rfl hp hok (hact.trans ((if_neg (not_not.mpr hs)).trans ((if_pos hhas).trans
        (if_pos ((remove_empty_iff hhas).mpr hother)))))
  · exact command_parse rfl hx rfl ((parseKinds_bytes a b).trans (if_neg (Nat.not_lt.mpr hout)))
  · have hquiet := State.departAll_quiet (subscribedTo s p (BitVec.ofNat 9 (nat16 a b)))
      (((claimsUnder s p (BitVec.ofNat 9 (nat16 a b))).filter fun e => e.ports.empty).map AlertEntry.number)
    refine ⟨_, command_done rfl hx rfl ((parseKinds_bytes a b).trans (if_pos hin)) hok (setSubscriptionAct_eq ..), ?_, ?_,
      ?_, fun hkeep => ?_, rfl⟩
    · rw [State.answer_port, quiet_port hquiet]
      cases p <;> rfl
    · rw [State.answer_port_other, quiet_port hquiet]
      cases p <;> rfl
    · exact quiet_answer (hquiet.trans (subscribedTo_quiet ..)) ..
    · obtain ⟨hsame, hnone⟩ := claimsUnder_same hkeep
      rw [State.answer_alerts, State.answer_serials, hnone]
      refine ⟨hsame, ?_⟩
      cases p <;> rfl

end Sys2Proof.Machine
end

-- ==== Proofs: resets, protection and the check code ====
section
/-! PROOFS. The reset of the part (O3) and the laws it establishes (O49), SET-LOCK and RESET-PORT (O47), the check code
(O48). -/
namespace Sys2Proof.Machine

/-! ### The reset of the part -/

/-- RESTART that is in execution and not refused (R170). -/
theorem exec_restart_go {s : State} {p : Port} {ready : BitVec 4} {straps : BitVec 3} (hx : s.executes p .restart [])
    (hok : s.permits p .restart none) : exec (.restart p ready straps) s = .next (s.resetWhole ready straps s.level) := by
  have hrow : exec (.restart p ready straps) s = .next (
    match prepare .restart p s parseNone noItem with
    | .notNow => s
    | .refused code st => s.answer p code st []
    | .go _ _ => s.resetWhole ready straps s.level) := rfl
  have hgo : prepare .restart p s parseNone noItem = .go Command.restart.code () := by
    simp [prepare, show (s.port p).executing = _ from hx, Command.paramLen, parseNone, noItem, commonRefusal_none.mpr hok]
  rw [hrow, hgo]

theorem memoryAfterCut_kept {s : State} (h : s.store.isSaving = false) : s.memoryAfterCut = s.memory := by
  unfold State.memoryAfterCut
  split
  · rfl
  · rfl
  · next body hphase => simp [Store.isSaving, hphase] at h
  · rfl

theorem memoryAfterCut_saving {s : State} {body : List Byte} (h : s.store.phase = .saving body) :
    s.memoryAfterCut = s.memory ∨ s.memoryAfterCut = writePage s.memory body s.store.writes := by
  unfold State.memoryAfterCut
  rw [h]
  dsimp only
  split
  · exact .inr rfl
  · exact .inl rfl

theorem default_aims (v : Fin 12) : AimSet.default.active.aims.get v = ⟨0, -150, -80, 80, 150⟩ := Table.get_fill ..

/-- Settles O3: every field of the state after the reset. -/
theorem resetOfThePart : Obligations.ResetOfThePart := by
  intro ready straps s
  refine ⟨s.resetWhole ready straps 0, rfl, fun k => Table.get_ofFn .., rfl, rfl, rfl, rfl, fun n => Table.get_fill ..,
    fun k => Table.get_fill .., fun k => ?_, rfl, rfl, rfl, rfl, rfl, rfl, rfl, rfl, rfl, rfl, fun k => Table.get_fill ..,
    fun p => ?_, rfl, rfl, rfl, memoryAfterCut_kept, fun body => memoryAfterCut_saving, fun p hx hload => ?_⟩
  · have haim : (s.resetWhole ready straps 0).aim k = AimSet.default := Table.get_fill ..
    rw [haim]
    exact ⟨rfl, rfl, rfl, rfl, rfl, rfl, default_aims⟩
  · cases p
    · exact ⟨rfl, rfl, rfl, rfl, rfl, rfl, rfl, rfl, rfl⟩
    · exact ⟨rfl, rfl, rfl, rfl, rfl, rfl, rfl, rfl, rfl⟩
  · exact exec_restart_go hx ⟨(fun h => by rw [hload] at h; cases h), fun _ => rfl, rfl, fun _ h => nomatch h⟩

/-- The initial state is one that a reset leaves, but for the count of free values taken. -/
theorem reset_eq : State.reset = { State.reset.resetWhole 0 0 0 with freeCount := 0 } := by
  have hreaders : readersAfterReset 0 = Table.fill 4 (Reader.reset false) := Table.ext fun k => by
    rw [readersAfterReset, Table.get_ofFn, Table.get_fill]
    simp
  unfold State.resetWhole
  rw [hreaders]
  rfl

/-- Settles O49: each law holds after a reset. -/
theorem lawsHoldAtReset : Obligations.LawsHoldAtReset := by
  have hlines : ∀ n c, State.reset.line n ≠ some c := fun n c h => by simp [State.line, State.reset] at h
  unfold Obligations.LawsHoldAtReset
  refine ⟨?_, ?_, ?_, ?_, ?_, fun n c h => absurd h (hlines n c), ?_, ?_, ?_, ?_, ?_, ?_⟩
  · rw [reset_eq]
    exact LoadingOk.reset State.reset 0 0 0
  · exact ⟨List.Pairwise.nil, fun _ h => nomatch h⟩
  · exact ⟨Nat.zero_le _, List.nodup_nil, fun _ h => nomatch h⟩
  · exact ⟨List.nodup_nil, List.nodup_nil, (fun _ h => nomatch h), fun n c h => absurd h (hlines n c)⟩
  · rw [reset_eq]
    exact AimsOk.reset State.reset 0 0 0
  · rw [reset_eq]
    exact LotsOk.reset State.reset 0 0 0
  · rw [reset_eq]
    exact QueueOk.reset State.reset 0 0 0
  · rw [reset_eq]
    exact ReadersOk.reset State.reset 0 0 0
  · rw [reset_eq]
    exact AlertsOk.reset State.reset 0 0 0
  · rw [reset_eq]
    exact PortsOk.reset State.reset 0 0 0
  · rw [reset_eq]
    exact DayOk.reset State.reset 0 0 0

/-! ### Protection -/

theorem parseLock_byte (a : Byte) : parseLock [a] = if a.toNat ≤ 3 then .ok a.toNat else .error .range := by
  show (check (decide (a.toNat ≤ 3)) .range >>= fun _ => Except.ok a.toNat) = _
  by_cases h : a.toNat ≤ 3
  · rw [decide_eq_true h, if_pos h]
    rfl
  · rw [decide_eq_false h, if_neg h]
    rfl

theorem level_setLock {s t : State} {p : Port} (h : exec (.setLock p) s = .next t) : s.level ≤ t.level := by
  have hrow : exec (.setLock p) s = .next (runCommand .setLock p s parseLock noItem setLockAct) := rfl
  rw [hrow] at h
  rw [← Host.Outcome.next.inj h]
  refine runCommand_keeps (fun t => s.level ≤ t.level) (fun t code st data ht => ?_) le_rfl
    fun params a s' st data _ _ _ hact => ?_
  · rwa [State.answer_level]
  · unfold setLockAct at hact
    split at hact
    · cases hact
    · next hle =>
      cases hact
      exact Nat.le_of_not_le hle

theorem level_restart {s t : State} {p : Port} {ready : BitVec 4} {straps : BitVec 3}
    (h : exec (.restart p ready straps) s = .next t) : s.level ≤ t.level := by
  have hrow : exec (.restart p ready straps) s = .next (
    match prepare .restart p s parseNone noItem with
    | .notNow => s
    | .refused code st => s.answer p code st []
    | .go _ _ => s.resetWhole ready straps s.level) := rfl
  rw [hrow] at h
  rw [← Host.Outcome.next.inj h]
  split
  · exact le_rfl
  · rw [State.answer_level]
  · exact le_rfl

/-- Settles O47: SET-LOCK by the level it names, RESET-PORT, and no event but power-on that lowers the level. -/
theorem setLockAndResetPort : Obligations.SetLockAndResetPort := by
  intro s p
  refine ⟨fun a hx => ⟨fun hout => ?_, fun hin hok => ⟨fun hle => ?_, fun hlt => ?_⟩⟩, fun hx hok => ?_, fun c t h hpower => ?_⟩
  · exact command_parse rfl hx rfl ((parseLock_byte a).trans (if_neg (Nat.not_le.mpr hout)))
  · exact command_refuses rfl hx rfl ((parseLock_byte a).trans (if_pos hin)) hok (if_pos hle)
  · exact command_done rfl hx rfl ((parseLock_byte a).trans (if_pos hin)) hok (if_neg (Nat.not_le.mpr hlt))
  · have hrow : exec (.resetPort p) s = .next (runCommand .resetPort p s parseNone noItem fun _ => resetPortAct p) := rfl
    rw [command_done hrow hx rfl rfl hok rfl]
    cases p <;> rfl
  · by_cases hw : (writes c).contains .level = false
    · exact Nat.le_of_eq ((exec_frame h).level hw).symm
    · cases c
      case powerOnReset ready straps => exact absurd rfl (hpower ready straps)
      case setLock => exact level_setLock h
      case restart => exact level_restart h
      all_goals exact absurd rfl hw

/-! ### The check code -/

/-- Settles O48: the register, bit by bit and byte by byte. -/
theorem checkCodeRegister : Obligations.CheckCode := by
  refine ⟨by decide +kernel, rfl, fun bs b => List.foldl_append .., fun c b => rfl, fun c bit => ?_⟩
  have hmsb : c.msb = c.getLsbD 15 := BitVec.msb_eq_getLsbD_last c
  unfold crcBit
  rw [hmsb]
  rfl

end Sys2Proof.Machine
end

-- ==== Proofs: saving and loading ====
section
/-! PROOFS. SAVE-IMAGE, the page writes and the end of a save (O44); the header read and the end of a load (O45). -/
namespace Sys2Proof.Machine

/-! ### The lengths of the body's sections -/

theorem deskEntry_length (d : Desk) : (deskEntry d).length = 16 := by simp [deskEntry]

theorem aimEntry_length (a : AimSet) : (aimEntry a).length = 128 := by simp [aimEntry]

theorem lotEntry_length (o : Option Lot) : (lotEntry o).length = 64 := by
  simp [lotEntry, eachOf_length signed16 2 signed16_length]

theorem lineEntry_length (o : Option LineCtx) (free : Nat) : (lineEntry o free).length = 8 := by
  cases o with
  | none => rfl
  | some c => simp [lineEntry]

theorem lineSection_length (s : State) :
    ((List.finRange 96).flatMap fun n => lineEntry (s.line n) (s.freeCount + 8 * n.val)).length = 768 :=
  (flatMap_length (fun n : Fin 96 => lineEntry (s.line n) (s.freeCount + 8 * n.val)) 8 (fun _ => lineEntry_length ..) _).trans
    (by rw [List.length_finRange])

theorem body_length (s : State) : s.body.length = 3856 := by
  unfold State.body
  rw [List.length_append, List.length_append, List.length_append, deskEntry_length, eachOf_length aimEntry 128 aimEntry_length,
    eachOf_length lotEntry 64 lotEntry_length, lineSection_length]

/-! ### A save -/

section
variable {s : State} {body : List Byte}

theorem saveImageAct_busy (h : s.day.state ≠ .dayOpen ∨ s.store.phase ≠ .idle) : saveImageAct s = .refuse .busy :=
  if_neg fun ⟨hd, hs⟩ => h.elim (fun h => h hd) fun h => h hs

theorem exec_pageWriteComplete (h : s.store.phase = .saving body) :
    exec .pageWriteComplete s = .next (s.pageWritten body) := by
  have hrow : exec .pageWriteComplete s = .next (
    match s.store.phase with
    | .loadingHeader => s
    | .loadingBody _ => s
    | .saving body => s.pageWritten body
    | .idle => s) := rfl
  rw [hrow, h]

theorem exec_writeTimeout (h : s.store.phase = .saving body) :
    exec .writeTimeout s = .next (s.endSave (.saveFailed .writeTimeout)) := by
  have hrow : exec .writeTimeout s = .next (
    match s.store.phase with
    | .loadingHeader => s
    | .loadingBody _ => s
    | .saving _ => s.endSave (.saveFailed .writeTimeout)
    | .idle => s) := rfl
  rw [hrow, h]

theorem exec_noAnswer (s : State) : exec .noAnswer s = .next (
    match s.store.phase with
    | .loadingHeader => s.endStore (.loadFailed .noAnswer)
    | .loadingBody _ => s.endStore (.loadFailed .noAnswer)
    | .saving _ => s.endSave (.saveFailed .noAnswer)
    | .idle => s) := rfl

theorem exec_noAnswer_saving (h : s.store.phase = .saving body) :
    exec .noAnswer s = .next (s.endSave (.saveFailed .noAnswer)) := by
  rw [exec_noAnswer, h]

theorem endSave_eq (s : State) (o : LastOutcome) : s.endSave o = { s with
    store := { s.store with phase := .idle, outcome := o }
    mp0 := { s.mp0 with storeFlag := true }, mp1 := { s.mp1 with storeFlag := true }
    day := { s.day with state := if s.day.state = .transferWait then .closing (.transferAim 0) else s.day.state } } := by
  unfold State.endSave State.resumeTransfer
  by_cases h : s.day.state = .transferWait
  · rw [if_pos h, if_pos (show (s.endStore o).day.state = .transferWait from h)]
    rfl
  · rw [if_neg h, if_neg (show (s.endStore o).day.state ≠ .transferWait from h)]
    rfl

theorem pageWrite_middle {k : Nat} (hlow : 1 ≤ k) (hhigh : k ≤ 120) :
    pageWrite body k = (32 * k, (body.drop (32 * k - 16)).take 32) := by
  have hfirst : k ≠ 0 := by omega
  have hlast : k < saveWrites - 1 := by
    show k < 121
    omega
  unfold pageWrite
  rw [if_neg hfirst, if_pos hlast]
  rfl
end

/-- Settles O44: the acts of a save, its pages, and what a written page changes in the memory. -/
theorem savingTheImage : Obligations.SavingTheImage := by
  intro s p ended
  refine ⟨fun hx hok => ⟨fun hd hs => ?_, fun hno => ?_⟩, body_length s, fun body hphase =>
    ⟨fun hlt => ?_, fun hlast => ?_, ?_, ?_, rfl, rfl, rfl, rfl, rfl, rfl, fun k => pageWrite_middle, fun hm k a => ?_⟩⟩
  · exact command_done rfl hx rfl rfl hok (if_pos ⟨hd, hs⟩)
  · exact command_refuses rfl hx rfl rfl hok (saveImageAct_busy hno)
  · have hmore : s.store.writes + 1 < saveWrites := Nat.succ_lt_succ hlt
    rw [exec_pageWriteComplete hphase, State.pageWritten]
    exact congrArg Host.Outcome.next (if_pos hmore)
  · have hend : ¬ s.store.writes + 1 < saveWrites := by
      rw [hlast]
      decide
    rw [exec_pageWriteComplete hphase, State.pageWritten]
    refine congrArg Host.Outcome.next ((if_neg hend).trans ((endSave_eq ..).trans ?_))
    rw [hlast]
  · rw [exec_writeTimeout hphase, endSave_eq]
  · rw [exec_noAnswer_saving hphase, endSave_eq]
  · exact Memory.read_writeBytes hm (pageWrite_inside body k)

/-! ### A load -/

theorem nat16_eq_iff {a b : Byte} {n : Nat} (h : n < 65536) : nat16 a b = n ↔ a = byte (n / 256) ∧ b = byte n := by
  constructor
  · rintro rfl
    have ha := a.isLt
    have hb := b.isLt
    constructor
    · refine (byte_of_toNat (n := nat16 a b / 256) ?_).symm
      unfold nat16
      omega
    · refine BitVec.eq_of_toNat_eq ?_
      show b.toNat = (BitVec.ofNat 8 (nat16 a b)).toNat
      rw [BitVec.toNat_ofNat]
      unfold nat16
      omega
  · rintro ⟨rfl, rfl⟩
    exact nat16_bytes h

theorem headerCheck_bytes (m1 m2 f1 f2 l1 l2 c1 c2 : Byte) (rest : List Byte) :
    headerCheck (m1 :: m2 :: f1 :: f2 :: l1 :: l2 :: c1 :: c2 :: rest) =
      if [m1, m2, f1, f2, l1, l2] = [0x5C, 0x3A, 0x00, 0x01, 0x0F, 0x10] then some (BitVec.ofNat 16 (nat16 c1 c2))
      else none := by
  have hfields : (nat16 m1 m2 = marker ∧ nat16 f1 f2 = formatNumber ∧ nat16 l1 l2 = bodyLength) ↔
      [m1, m2, f1, f2, l1, l2] = [0x5C, 0x3A, 0x00, 0x01, 0x0F, 0x10] := by
    rw [nat16_eq_iff (show marker < 65536 by decide), nat16_eq_iff (show formatNumber < 65536 by decide),
      nat16_eq_iff (show bodyLength < 65536 by decide)]
    simp only [List.cons.injEq, and_true, and_assoc]
    exact Iff.rfl
  exact if_congr hfields rfl rfl

section
variable {s : State}

theorem exec_headerRead (h : s.store.phase = .loadingHeader) : exec .headerReadComplete s = .next s.headerRead := by
  have hrow : exec .headerReadComplete s = .next (
    match s.store.phase with
    | .loadingHeader => s.headerRead
    | .loadingBody _ => s
    | .saving _ => s
    | .idle => s) := rfl
  rw [hrow, h]

theorem exec_loadEnd_body {c : Word16} (h : s.store.phase = .loadingBody c) : exec .loadEnd s = .next (s.loadEnd c) := by
  have hrow : exec .loadEnd s = .next (
    match s.store.phase with
    | .loadingHeader => s
    | .loadingBody c => s.loadEnd c
    | .saving _ => s
    | .idle => s) := rfl
  rw [hrow, h]

theorem headerRead_bad (h : headerCheck (s.memory.readBytes 0 16) = none) :
    s.headerRead = s.endStore (.loadFailed .badHeader) := by
  unfold State.headerRead
  rw [h]

theorem headerRead_good {c : Word16} (h : headerCheck (s.memory.readBytes 0 16) = some c) :
    s.headerRead = s.setStore { s.store with phase := .loadingBody c } := by
  unfold State.headerRead
  rw [h]

theorem loadEnd_badCrc {c : Word16} (h : checkCode (s.memory.readBytes bodyStart bodyLength) ≠ c) :
    s.loadEnd c = s.endStore (.loadFailed .badCrc) := by
  rw [State.loadEnd, if_pos h]

theorem loadEnd_content {c : Word16} (h : checkCode (s.memory.readBytes bodyStart bodyLength) = c) :
    s.loadEnd c = match contentOf (s.memory.readBytes bodyStart bodyLength) with
      | none => s.endStore (.loadFailed .badContent)
      | some x => (s.restore x).endStore .loaded := by
  rw [State.loadEnd, if_neg (not_not.mpr h)] <;> rfl

theorem loadEnd_badContent {c : Word16} (h : checkCode (s.memory.readBytes bodyStart bodyLength) = c)
    (hno : contentOf (s.memory.readBytes bodyStart bodyLength) = none) :
    s.loadEnd c = s.endStore (.loadFailed .badContent) := by
  rw [loadEnd_content h, hno]

theorem loadEnd_loaded {c : Word16} {x : Image} (h : checkCode (s.memory.readBytes bodyStart bodyLength) = c)
    (hx : contentOf (s.memory.readBytes bodyStart bodyLength) = some x) :
    s.loadEnd c = (s.restore x).endStore .loaded := by
  rw [loadEnd_content h, hx]
end

/-- Settles O45: the header read by its first eight bytes, the load's end by the check code and the content. -/
theorem loadingTheImage : Obligations.LoadingTheImage := by
  intro s ended bytes body
  have hheader : headerCheck (s.memory.readBytes 0 16) = if bytes.take 6 = [0x5C, 0x3A, 0x00, 0x01, 0x0F, 0x10] then
      some (BitVec.ofNat 16 (nat16 (s.memory.read 6) (s.memory.read 7))) else none := headerCheck_bytes ..
  refine ⟨fun hphase => ⟨fun hbad => ?_, fun a b hgood => ?_, ?_⟩, fun c hphase => ⟨fun h => ?_, fun h hno => ?_,
    fun x h hx => ?_, ?_⟩⟩
  · rw [exec_headerRead hphase, headerRead_bad (hheader.trans (if_neg hbad))]
    rfl
  · have hsix : bytes.take 6 = [0x5C, 0x3A, 0x00, 0x01, 0x0F, 0x10] := by
      have htake := congrArg (List.take 6) hgood
      rwa [List.take_take] at htake
    have hcrc : s.memory.read 6 = a ∧ s.memory.read 7 = b := by
      have hdrop := congrArg (List.drop 6) hgood
      exact ⟨(List.cons.inj hdrop).1, (List.cons.inj (List.cons.inj hdrop).2).1⟩
    rw [exec_headerRead hphase, headerRead_good (hheader.trans (if_pos hsix)), hcrc.1, hcrc.2]
  · rw [exec_noAnswer, hphase]
    rfl
  · rw [exec_loadEnd_body hphase, loadEnd_badCrc h]
    rfl
  · rw [exec_loadEnd_body hphase, loadEnd_badContent h hno]
    rfl
  · rw [exec_loadEnd_body hphase, loadEnd_loaded h hx]
    rfl
  · rw [exec_noAnswer, hphase]
    rfl

end Sys2Proof.Machine
end

-- ==== Proofs: a saved image loads back ====
section
/-! PROOFS. The content check of the body a save writes (O46): each section's entries, and what they give back. -/
namespace Sys2Proof.Machine

/-! ### The entries of a section -/

theorem entry_of_flatMap {α : Type} {f : α → List Byte} {w : Nat} (hw : ∀ a, (f a).length = w) (post : List Byte) :
    ∀ (l : List α) (i : Nat) (h : i < l.length), ((l.flatMap f ++ post).drop (w * i)).take w = f l[i]
  | a :: l, 0, _ => by
    rw [List.flatMap_cons, List.append_assoc, Nat.mul_zero, List.drop_zero]
    exact List.take_left' (hw a)
  | a :: l, i + 1, h => by
    rw [List.flatMap_cons, List.append_assoc, Nat.mul_succ, Nat.add_comm, ← List.drop_drop, List.drop_left' (hw a)]
    exact entry_of_flatMap hw post l i (Nat.lt_of_succ_lt_succ h)

theorem entryAt_section {α : Type} {f : α → List Byte} {w off : Nat} (hw : ∀ a, (f a).length = w) {pre : List Byte}
    (hpre : pre.length = off) (post : List Byte) {l : List α} {i : Nat} (h : i < l.length) :
    entryAt (pre ++ (l.flatMap f ++ post)) off w i = f l[i] := by
  unfold entryAt
  rw [← List.drop_drop, List.drop_left' hpre]
  exact entry_of_flatMap hw post l i h

section
variable (s : State)

/-- The entries of the lines, in their order. -/
def State.lineEntries : List Byte :=
  (List.finRange 96).flatMap fun n => lineEntry (s.line n) (s.freeCount + 8 * n.val)

theorem entryAt_desk : entryAt s.body 0 16 0 = deskEntry s.day.desk := by
  unfold entryAt State.body
  rw [List.append_assoc, List.append_assoc]
  exact List.take_left' (deskEntry_length s.day.desk)

theorem entryAt_aim (k : Fin 16) : entryAt s.body 16 128 k.val = aimEntry (s.aim k) := by
  have hbody : s.body = deskEntry s.day.desk ++ (s.aims.cells.flatMap aimEntry ++
      (eachOf lotEntry s.lots ++ s.lineEntries)) := by
    simp only [State.body, List.append_assoc, eachOf, State.lineEntries]
  rw [hbody]
  exact entryAt_section aimEntry_length (deskEntry_length _) _ (by rw [s.aims.size]; exact k.isLt)

theorem entryAt_lot (k : Fin 16) : entryAt s.body 2064 64 k.val = lotEntry (s.lot k) := by
  have hbody : s.body = (deskEntry s.day.desk ++ eachOf aimEntry s.aims) ++ (s.lots.cells.flatMap lotEntry ++
      s.lineEntries) := by
    simp only [State.body, List.append_assoc, eachOf, State.lineEntries]
  have hpre : (deskEntry s.day.desk ++ eachOf aimEntry s.aims).length = 2064 := by
    rw [List.length_append, deskEntry_length, eachOf_length aimEntry 128 aimEntry_length]
  rw [hbody]
  exact entryAt_section lotEntry_length hpre _ (by rw [s.lots.size]; exact k.isLt)

theorem entryAt_line (n : Fin 96) :
    entryAt s.body 3088 8 n.val = lineEntry (s.line n) (s.freeCount + 8 * n.val) := by
  have hbody : s.body = (deskEntry s.day.desk ++ eachOf aimEntry s.aims ++ eachOf lotEntry s.lots) ++
      (((List.finRange 96).flatMap fun n => lineEntry (s.line n) (s.freeCount + 8 * n.val)) ++ []) := by
    rw [List.append_nil]
    rfl
  have hpre : (deskEntry s.day.desk ++ eachOf aimEntry s.aims ++ eachOf lotEntry s.lots).length = 3088 := by
    rw [List.length_append, List.length_append, deskEntry_length, eachOf_length aimEntry 128 aimEntry_length,
      eachOf_length lotEntry 64 lotEntry_length]
  have hn : n.val < (List.finRange 96).length := by
    rw [List.length_finRange]
    exact n.isLt
  have hentry := entryAt_section (f := fun n : Fin 96 => lineEntry (s.line n) (s.freeCount + 8 * n.val))
    (fun _ => lineEntry_length ..) hpre [] hn
  rw [hbody, hentry, List.getElem_finRange]
  rfl
end

/-! ### The desk and the aim sets -/

theorem parseDeskEntry_entry {d : Desk} (h : d.inRange = true) : parseDeskEntry (deskEntry d) = some d := by
  have htake : (deskEntry d).take 9 = d.bytes := List.take_left' (deskBytes_length d)
  unfold parseDeskEntry
  rw [htake, deskOf_bytes h]
  exact if_pos h

/-- A value's five fields in the order of their bytes. -/
def ValueAim.fields (a : ValueAim) : List Int := [a.offset, a.la, a.lw, a.uw, a.ua]

theorem valueAim_bytes (a : ValueAim) : a.bytes = a.fields.flatMap signed16 := by
  simp [ValueAim.bytes, ValueAim.fields]

theorem valueAims_fields : ∀ l : List ValueAim, valueAims (l.flatMap ValueAim.fields) = l
  | [] => rfl
  | a :: l => congrArg (List.cons a) (valueAims_fields l)

theorem ValueAim.fields_range {a : ValueAim} (h : a.valid = true) : ∀ x ∈ a.fields, -4000 ≤ x ∧ x ≤ 4000 := by
  simp only [ValueAim.valid, Bool.and_eq_true, decide_eq_true_eq, within_iff] at h
  intro x hx
  simp only [ValueAim.fields, List.mem_cons, List.not_mem_nil, or_false] at hx
  omega

theorem valueAims_bytes {l : List ValueAim} (h : ∀ a ∈ l, a.valid = true) :
    valueAims (int16s (l.flatMap ValueAim.bytes)) = l := by
  have hbytes : l.flatMap ValueAim.bytes = (l.flatMap ValueAim.fields).flatMap signed16 := by
    rw [List.flatMap_assoc]
    exact List.flatMap_congr fun a _ => valueAim_bytes a
  rw [hbytes, int16s_signed16 fun x hx => ?_, valueAims_fields]
  obtain ⟨a, ha, hx⟩ := List.mem_flatMap.mp hx
  exact ValueAim.fields_range (h a ha) x hx

theorem valueAim_length (a : ValueAim) : a.bytes.length = 10 := by simp [ValueAim.bytes]

theorem parsePart_bytes {q : AimPart} (h : q.valid = true) (post : List Byte) : parsePart (q.bytes ++ post) = some q := by
  simp only [AimPart.valid, Bool.and_eq_true, decide_eq_true_eq] at h
  obtain ⟨⟨⟨⟨⟨haims, hrun⟩, hrun'⟩, hslope⟩, hslope'⟩, hsettling⟩ := h
  have hlen : (eachOf ValueAim.bytes q.aims).length = 120 := eachOf_length ValueAim.bytes 10 valueAim_length q.aims
  have hsplit : q.bytes ++ post = eachOf ValueAim.bytes q.aims ++ (byte q.run :: byte q.slope :: byte q.settling :: post) := by
    simp [AimPart.bytes]
  have htake : (q.bytes ++ post).take 120 = q.aims.cells.flatMap ValueAim.bytes := by
    rw [hsplit]
    exact List.take_left' hlen
  have hdrop : (q.bytes ++ post).drop 120 = byte q.run :: byte q.slope :: byte q.settling :: post := by
    rw [hsplit]
    exact List.drop_left' hlen
  unfold parsePart
  rw [htake, hdrop, valueAims_bytes (List.all_eq_true.mp haims), twelve_cells]
  simp only [byte_toNat (show q.run < 256 by omega), byte_toNat (show q.slope < 256 by omega),
    byte_toNat (show q.settling < 256 by omega)]

theorem parseAimEntry_entry {a : AimSet} (h : a.active.valid = true) :
    parseAimEntry (aimEntry a) = some (some { a with pending := a.active }) := by
  show (parseCarried a.kind.code (flagByte a.preload) (a.active.bytes ++ [0, 0])).map some = _
  unfold parseCarried
  rw [kindOf_code, flagOf_flagByte, parsePart_bytes h]
  exact congrArg (Option.map some) (if_pos h)

/-! ### The slots -/

/-- A slot as a load restores it (R116). -/
def Lot.saved (l : Lot) : Lot :=
  { l with pending := l.active, shift := none, proposal := none, waiting := Table.fill 12 none }

theorem parseLotState_code {st : LotState} (h : ∀ c, st = .retiring c → 1 ≤ c ∧ c ≤ 7) :
    parseLotState (lotStateCode (some st)) (byte st.countdown) = some st := by
  cases st with
  | defined => rfl
  | current => rfl
  | retired => rfl
  | retiring c =>
    obtain ⟨hlow, hhigh⟩ := h c rfl
    have hbyte : (byte c).toNat = c := byte_toNat (by omega)
    simp only [parseLotState, lotStateCode, LotState.countdown, hbyte]
    rw [if_neg (fun h => absurd h.1 (by decide)), if_neg (fun h => absurd h.1 (by decide)), if_pos ⟨trivial, hlow, hhigh⟩]

theorem lotStateCode_ne (st : LotState) : lotStateCode (some st) ≠ 0 := by cases st <;> exact nofun

theorem parseLotEntry_bytes {st c1 c2 c3 c4 k countdown : Byte} {refs active post : List Byte} (hr : refs.length = 24)
    (ha : active.length = 24) :
    parseLotEntry (st :: c1 :: c2 :: c3 :: c4 :: k :: (refs ++ (active ++ (countdown :: post)))) =
      if st = 0 then (if countdown = 0 then some none else none)
      else match parseLotState st countdown with
        | none => none
        | some state => (parseLotFields state (nat32 c1 c2 c3 c4) k refs active).map some := by
  have hdrop : (refs ++ (active ++ (countdown :: post))).drop 24 = active ++ (countdown :: post) := List.drop_left' hr
  have hdrop' : (refs ++ (active ++ (countdown :: post))).drop 48 = countdown :: post := by
    rw [show 48 = 24 + 24 from rfl, ← List.drop_drop, hdrop]
    exact List.drop_left' ha
  have htake : (refs ++ (active ++ (countdown :: post))).take 24 = refs := List.take_left' hr
  have htake' : (active ++ (countdown :: post)).take 24 = active := List.take_left' ha
  unfold parseLotEntry
  simp only [hdrop, hdrop', htake, htake']
  rfl

theorem parseLotFields_bytes {l : Lot} (hcode : 1 ≤ l.code)
    (hvalues : ∀ v, -4000 ≤ l.refs.get v ∧ l.refs.get v ≤ 4000 ∧ -500 ≤ l.active.get v ∧ l.active.get v ≤ 500) :
    parseLotFields l.state l.code l.kind.code (eachOf signed16 l.refs) (eachOf signed16 l.active) = some l.saved := by
  have hrefs : ∀ x ∈ l.refs.cells, -4000 ≤ x ∧ x ≤ 4000 := fun x hx => by
    obtain ⟨v, rfl⟩ := (Table.mem_cells l.refs x).mp hx
    obtain ⟨hlow, hhigh, _⟩ := hvalues v
    exact ⟨hlow, hhigh⟩
  have hactive : ∀ x ∈ l.active.cells, -500 ≤ x ∧ x ≤ 500 := fun x hx => by
    obtain ⟨v, rfl⟩ := (Table.mem_cells l.active x).mp hx
    obtain ⟨_, _, hlow, hhigh⟩ := hvalues v
    exact ⟨hlow, hhigh⟩
  have hparts : 1 ≤ l.code ∧ l.refs.cells.all (within (-4000) 4000) = true ∧
      l.active.cells.all (within (-500) 500) = true :=
    ⟨hcode, List.all_eq_true.mpr fun x hx => within_iff.mpr (hrefs x hx),
      List.all_eq_true.mpr fun x hx => within_iff.mpr (hactive x hx)⟩
  unfold parseLotFields eachOf
  rw [kindOf_code, int16s_signed16 hrefs, int16s_signed16 fun x hx => ?_, twelve_cells, twelve_cells]
  · exact if_pos hparts
  · obtain ⟨hlow, hhigh⟩ := hactive x hx
    omega

theorem signed16s_length (t : Table Int 12) : (eachOf signed16 t).length = 24 := eachOf_length signed16 2 signed16_length t

theorem parseLotEntry_empty : parseLotEntry (lotEntry none) = some none := by
  have hentry : lotEntry none = 0 :: 0 :: 0 :: 0 :: 0 :: 0 :: (eachOf signed16 (Table.fill 12 0) ++
      (eachOf signed16 (Table.fill 12 0) ++ (0 :: List.replicate 9 0))) := by
    simp only [lotEntry, List.append_assoc]
    rfl
  rw [hentry, parseLotEntry_bytes (signed16s_length _) (signed16s_length _), if_pos rfl, if_pos rfl]

theorem parseLotEntry_entry {l : Lot} (hstate : ∀ c, l.state = .retiring c → 1 ≤ c ∧ c ≤ 7) (hcode : 1 ≤ l.code)
    (hcode' : l.code ≤ 4294967295)
    (hvalues : ∀ v, -4000 ≤ l.refs.get v ∧ l.refs.get v ≤ 4000 ∧ -500 ≤ l.active.get v ∧ l.active.get v ≤ 500) :
    parseLotEntry (lotEntry (some l)) = some (some l.saved) := by
  have hentry : lotEntry (some l) = lotStateCode (some l.state) :: byte (l.code / 16777216) :: byte (l.code / 65536) ::
      byte (l.code / 256) :: byte l.code :: l.kind.code :: (eachOf signed16 l.refs ++ (eachOf signed16 l.active ++
      (byte l.state.countdown :: List.replicate 9 0))) := by
    simp only [lotEntry, List.append_assoc]
    rfl
  rw [hentry, parseLotEntry_bytes (signed16s_length _) (signed16s_length _), if_neg (lotStateCode_ne _),
    parseLotState_code hstate, nat32_bytes (by omega)]
  exact congrArg (Option.map some) (parseLotFields_bytes hcode hvalues)

/-! ### The lines -/

/-- A line as a load restores it (R87). -/
def LineCtx.saved (c : LineCtx) : LineCtx :=
  LineCtx.fresh (if c.state = .suspended then .suspended else .enrolled) c.lab c.kind c.aim

theorem parseLineEntry_unused (free : Nat) : parseLineEntry (lineEntry none free) = some none := rfl

theorem parseLineEntry_entry {c : LineCtx} (hlow : 1 ≤ c.lab) (hhigh : c.lab ≤ 65534) (free : Nat) :
    parseLineEntry (lineEntry (some c) free) = some (some c.saved) := by
  show (parseEnrolled (byte (c.lab / 256)) (byte c.lab) c.kind.code (byte c.aim.val)
    (flagByte (decide (c.state = .suspended)))).map some = _
  unfold parseEnrolled
  rw [kindOf_code, indexOf_set, flagOf_flagByte, nat16_bytes (show c.lab < 65536 by omega)]
  simp only [labOk_iff.mpr ⟨hlow, hhigh⟩, decide_eq_true_eq]
  rfl

/-! ### The points that concern several entries -/

theorem consistent_of_parts {x : Image}
    (hkeys : ∀ i j a b, i < j → x.lines.get i = some a → x.lines.get j = some b → ¬ (a.lab = b.lab ∧ a.kind = b.kind))
    (hcurrent : ∀ i j a b, i < j → x.lots.get i = some a → x.lots.get j = some b →
      ¬ ((a.state = .current ∧ b.state = .current) ∧ a.kind = b.kind))
    (hcodes : ∀ i j a b, i < j → x.lots.get i = some a → x.lots.get j = some b → a.code ≠ b.code)
    (hbound : ∀ n c, x.lines.get n = some c → x.aimKind c.aim = c.kind) : x.consistent = true := by
  have hlines : clash x.lines (fun a b => decide (a.lab = b.lab) && decide (a.kind = b.kind)) = false :=
    clash_eq_false.mpr fun i j a b hij ha hb => by simpa using hkeys i j a b hij ha hb
  have hone : clash x.lots (fun a b => decide (a.state = .current) && decide (b.state = .current) &&
      decide (a.kind = b.kind)) = false :=
    clash_eq_false.mpr fun i j a b hij ha hb => by simpa using hcurrent i j a b hij ha hb
  have hcode : clash x.lots (fun a b => decide (a.code = b.code)) = false :=
    clash_eq_false.mpr fun i j a b hij ha hb => decide_eq_false (hcodes i j a b hij ha hb)
  have hall : x.lines.cells.all x.lineBound = true := List.all_eq_true.mpr fun o ho => by
    obtain ⟨n, hn⟩ := (Table.mem_cells x.lines o).mp ho
    cases o with
    | none => rfl
    | some c => exact decide_eq_true (hbound n c hn)
  unfold Image.consistent
  rw [hlines, hone, hcode, hall]
  rfl

/-- No two lines have one key (R62). -/
theorem line_of_key {s : State} (h : LabMapOk s) {n m : Fin 96} {a b : LineCtx} (ha : s.line n = some a)
    (hb : s.line m = some b) (hlab : a.lab = b.lab) (hkind : a.kind = b.kind) : n = m := by
  obtain ⟨hkeys, _, _, hback⟩ := h
  have heq := List.inj_on_of_nodup_map hkeys (hback n a ha) (hback m b hb) (by rw [hlab, hkind])
  exact congrArg MapEntry.line heq

/-! ### The image -/

/-- What a load takes from the body of a state (R176). -/
def State.savedImage (s : State) : Image :=
  { desk := s.day.desk
    aims := Table.ofFn fun k => some { s.aim k with pending := (s.aim k).active }
    lots := Table.ofFn fun k => (s.lot k).map Lot.saved
    lines := Table.ofFn fun n => (s.line n).map LineCtx.saved }

theorem savedImage_consistent {s : State} (hmap : LabMapOk s) (hbind : BindingOk s) (hlots : LotsOk s) :
    s.savedImage.consistent = true := by
  obtain ⟨_, hcodes, hcurrent, _⟩ := hlots
  have hlot : ∀ k l, s.savedImage.lots.get k = some l → ∃ l', s.lot k = some l' ∧ l = l'.saved := fun k l h => by
    obtain ⟨l', hl', rfl⟩ := Option.map_eq_some_iff.mp ((Table.get_ofFn ..).symm.trans h)
    exact ⟨l', hl', rfl⟩
  have hline : ∀ n c, s.savedImage.lines.get n = some c → ∃ c', s.line n = some c' ∧ c = c'.saved := fun n c h => by
    obtain ⟨c', hc', rfl⟩ := Option.map_eq_some_iff.mp ((Table.get_ofFn ..).symm.trans h)
    exact ⟨c', hc', rfl⟩
  refine consistent_of_parts (fun i j a b hij ha hb ⟨hlab, hkind⟩ => ?_) (fun i j a b hij ha hb ⟨⟨hca, hcb⟩, hkind⟩ => ?_)
    (fun i j a b hij ha hb hcode => ?_) fun n c hc => ?_
  · obtain ⟨a', ha', rfl⟩ := hline i a ha
    obtain ⟨b', hb', rfl⟩ := hline j b hb
    exact absurd (line_of_key hmap ha' hb' hlab hkind) (ne_of_lt hij)
  · obtain ⟨a', ha', rfl⟩ := hlot i a ha
    obtain ⟨b', hb', rfl⟩ := hlot j b hb
    exact absurd (hcurrent i j a' b' ha' hb' hca hcb hkind) (ne_of_lt hij)
  · obtain ⟨a', ha', rfl⟩ := hlot i a ha
    obtain ⟨b', hb', rfl⟩ := hlot j b hb
    exact absurd (hcodes i j a' b' ha' hb' hcode) (ne_of_lt hij)
  · obtain ⟨c', hc', rfl⟩ := hline n c hc
    have hkind : s.savedImage.aimKind c'.aim = (s.aim c'.aim).kind := by
      unfold Image.aimKind State.savedImage
      rw [Table.get_ofFn]
      rfl
    exact hkind.trans (hbind n c' hc')

theorem parseBody_of_parts {body : List Byte} {x : Image} (hdesk : parseDeskEntry (entryAt body 0 16 0) = some x.desk)
    (haims : ∀ k : Fin 16, parseAimEntry (entryAt body 16 128 k.val) = some (x.aims.get k))
    (hlots : ∀ k : Fin 16, parseLotEntry (entryAt body 2064 64 k.val) = some (x.lots.get k))
    (hlines : ∀ n : Fin 96, parseLineEntry (entryAt body 3088 8 n.val) = some (x.lines.get n)) :
    parseBody body = some x := by
  unfold parseBody
  rw [hdesk, allPass_of_get haims, allPass_of_get hlots, allPass_of_get hlines]

/-- Settles O46: the body holds the saved image, entry by entry, and its content passes. -/
theorem savedImageLoadsBack : Obligations.SavedImageLoadsBack := by
  intro s hmap haims hbind hlots hlabs hvalues
  have hdesk : parseDeskEntry (entryAt s.body 0 16 0) = some s.savedImage.desk := by
    rw [entryAt_desk]
    exact parseDeskEntry_entry hlots.1
  have hsets : ∀ k : Fin 16, parseAimEntry (entryAt s.body 16 128 k.val) = some (s.savedImage.aims.get k) := fun k => by
    rw [entryAt_aim, parseAimEntry_entry (haims k).1, State.savedImage, Table.get_ofFn]
  have hslots : ∀ k : Fin 16, parseLotEntry (entryAt s.body 2064 64 k.val) = some (s.savedImage.lots.get k) := fun k => by
    rw [entryAt_lot, State.savedImage, Table.get_ofFn]
    cases hl : s.lot k with
    | none => exact parseLotEntry_empty
    | some l =>
      obtain ⟨_, _, _, hretiring⟩ := hlots
      obtain ⟨hlow, hhigh, hv⟩ := hvalues k l hl
      exact parseLotEntry_entry (fun c hc => hretiring k l c hl hc) hlow hhigh hv
  have hlines : ∀ n : Fin 96, parseLineEntry (entryAt s.body 3088 8 n.val) = some (s.savedImage.lines.get n) := fun n => by
    rw [entryAt_line, State.savedImage, Table.get_ofFn]
    cases hc : s.line n with
    | none => exact parseLineEntry_unused _
    | some c =>
      obtain ⟨hlow, hhigh⟩ := hlabs n c hc
      exact parseLineEntry_entry hlow hhigh _
  refine ⟨s.savedImage, ?_, rfl, fun k => Table.get_ofFn .., fun k => Table.get_ofFn .., fun n => Table.get_ofFn ..⟩
  unfold contentOf
  rw [parseBody_of_parts hdesk hsets hslots hlines]
  exact if_pos (savedImage_consistent hmap hbind hlots)

end Sys2Proof.Machine
end

-- ==== Proofs: which parameters pass ====
section
/-! PROOFS. Step 3 of R159 for every command: the parser answers with operands exactly when the parameter bytes pass, and
otherwise with BAD-PARAM or RANGE. -/
namespace Sys2Proof.Machine

/-- A reading of parameter bytes that succeeds exactly when `P` holds, and fails with a status of step 3. -/
def Splits {α : Type} (r : Except Status α) (P : Prop) : Prop :=
  (P ∧ ∃ a, r = .ok a) ∨ (¬ P ∧ ∃ st, (st = .badParam ∨ st = .range) ∧ r = .error st)

section
variable {α β : Type} {P Q : Prop} {st : Status}

theorem Splits.congr {r : Except Status α} (h : Splits r P) (hiff : P ↔ Q) : Splits r Q := by
  unfold Splits at h ⊢
  rwa [← hiff]

theorem splits_ok (a : α) : Splits (Except.ok a : Except Status α) True := .inl ⟨trivial, a, rfl⟩

theorem splits_badParam (h : ¬ P) : Splits (Except.error .badParam : Except Status α) P := .inr ⟨h, _, .inl rfl, rfl⟩

theorem splits_need {o : Option β} {f : β → Except Status α} (hst : st = .badParam ∨ st = .range)
    (ho : o.isSome = true ↔ P) (hf : ∀ b, Splits (f b) Q) : Splits (need o st >>= f) (P ∧ Q) := by
  cases o with
  | none => exact .inr ⟨fun h => absurd (ho.mpr h.1) nofun, st, hst, rfl⟩
  | some b => exact (hf b).congr ⟨fun h => ⟨ho.mp rfl, h⟩, fun h => h.2⟩

theorem splits_check {b : Bool} {r : Except Status α} (hst : st = .badParam ∨ st = .range) (hb : b = true ↔ P)
    (hr : Splits r Q) : Splits (check b st >>= fun _ => r) (P ∧ Q) := by
  cases b with
  | false => exact .inr ⟨fun h => absurd (hb.mpr h.1) nofun, st, hst, rfl⟩
  | true => exact hr.congr ⟨fun h => ⟨hb.mp rfl, h⟩, fun h => h.2⟩
end

/-! ### The codes and numbers -/

theorem indexOf_isSome {n : Nat} {a : Byte} : (indexOf n a).isSome = true ↔ a.toNat < n := by
  unfold indexOf
  split <;> simp_all

theorem kindOf_isSome {k : Byte} : (kindOf k).isSome = true ↔ k = 1 ∨ k = 2 := by
  unfold kindOf
  split
  · simp_all
  · split <;> simp_all

theorem flagOf_isSome {b : Byte} : (flagOf b).isSome = true ↔ b = 0 ∨ b = 1 := by
  unfold flagOf
  split
  · simp_all
  · split <;> simp_all

theorem rateOf_isSome {b : Byte} : (rateOf b).isSome = true ↔ 1 ≤ b.toNat ∧ b.toNat ≤ 4 := by
  have hcodes : (rateOf b).isSome = true ↔ b = 1 ∨ b = 2 ∨ b = 3 ∨ b = 4 := by
    unfold rateOf
    split
    · simp_all
    · split
      · simp_all
      · split
        · simp_all
        · split <;> simp_all
  rw [hcodes]
  simp only [← BitVec.toNat_inj]
  show b.toNat = 1 ∨ b.toNat = 2 ∨ b.toNat = 3 ∨ b.toNat = 4 ↔ _
  omega

theorem itemOf_isSome {k i : Byte} : (itemOf k i).isSome = true ↔ namesItem k i := by
  unfold itemOf namesItem
  split
  · next h => subst h; simp [indexOf_isSome]
  · split
    · next h => subst h; simp [indexOf_isSome]
    · split
      · next h => subst h; simp [indexOf_isSome]
      · split <;> simp_all

/-! ### The parsers -/

section
variable (bs : List Byte)

theorem splits_parseNone : Splits (parseNone bs) (bs = []) := by
  unfold parseNone
  split
  · exact (splits_ok ()).congr (by simp)
  · next hno => exact splits_badParam hno

theorem splits_parseIndex (n : Nat) : Splits (parseIndex n bs) (∃ a, bs = [a] ∧ a.toNat < n) := by
  unfold parseIndex
  split
  · next a =>
    cases h : indexOf n a with
    | none =>
      refine splits_badParam ?_
      rintro ⟨_, heq, hlt⟩
      cases heq
      rw [← indexOf_isSome, h] at hlt
      cases hlt
    | some i => exact .inl ⟨⟨a, rfl, indexOf_isSome.mp (by rw [h]; rfl)⟩, i, rfl⟩
  · next hno => exact splits_badParam fun ⟨a, h, _⟩ => hno a h

theorem splits_parseEnroll : Splits (parseEnroll bs) (Command.enrollLine.paramsPass bs) := by
  unfold parseEnroll
  split
  · next a b k m =>
    refine (splits_check (.inr rfl) labOk_iff (splits_need (.inr rfl) indexOf_isSome fun _ =>
      splits_need (.inl rfl) kindOf_isSome fun _ => splits_ok _)).congr ⟨?_, ?_⟩
    · rintro ⟨⟨hlow, hhigh⟩, hm, hk, _⟩
      exact ⟨a, b, k, m, rfl, hlow, hhigh, hk, hm⟩
    · rintro ⟨_, _, _, _, heq, hlow, hhigh, hk, hm⟩
      cases heq
      exact ⟨⟨hlow, hhigh⟩, hm, hk, trivial⟩
  · next hno => exact splits_badParam fun ⟨a, b, k, m, h, _⟩ => hno a b k m h

theorem splits_parseSetLineAim : Splits (parseSetLineAim bs) (Command.setLineAim.paramsPass bs) := by
  unfold parseSetLineAim
  split
  · next a m =>
    refine (splits_need (.inl rfl) indexOf_isSome fun _ => splits_need (.inr rfl) indexOf_isSome fun _ =>
      splits_ok _).congr ⟨?_, ?_⟩
    · rintro ⟨ha, hm, _⟩
      exact ⟨a, m, rfl, ha, hm⟩
    · rintro ⟨_, _, heq, ha, hm⟩
      cases heq
      exact ⟨ha, hm, trivial⟩
  · next hno => exact splits_badParam fun ⟨a, m, h, _⟩ => hno a m h

theorem splits_parseChem : Splits (parseChem bs) (Command.chemEvent.paramsPass bs) := by
  unfold parseChem
  split
  · next a e =>
    have hevent : (if e = 1#8 then some true else if e = 2#8 then some false else none).isSome = true ↔
        e = 1 ∨ e = 2 := by
      split
      · simp_all
      · split <;> simp_all
    refine (splits_need (.inl rfl) indexOf_isSome fun _ => splits_need (.inl rfl) hevent fun _ =>
      splits_ok _).congr ⟨?_, ?_⟩
    · rintro ⟨ha, he, _⟩
      exact ⟨a, e, rfl, ha, he⟩
    · rintro ⟨_, _, heq, ha, he⟩
      cases heq
      exact ⟨ha, he, trivial⟩
  · next hno => exact splits_badParam fun ⟨a, e, h, _⟩ => hno a e h

theorem splits_parseVoid : Splits (parseVoid bs) (Command.voidPoint.paramsPass bs) := by
  unfold parseVoid
  split
  · next a h l =>
    refine (splits_need (.inl rfl) indexOf_isSome fun _ => splits_ok _).congr ⟨?_, ?_⟩
    · rintro ⟨ha, _⟩
      exact ⟨a, h, l, rfl, ha⟩
    · rintro ⟨_, _, _, heq, ha⟩
      cases heq
      exact ⟨ha, trivial⟩
  · next hno => exact splits_badParam fun ⟨a, h, l, heq, _⟩ => hno a h l heq

theorem splits_parsePoint : Splits (parsePoint bs) (Command.readPoint.paramsPass bs) := by
  unfold parsePoint
  split
  · next a g =>
    refine (splits_need (.inl rfl) indexOf_isSome fun _ => splits_check (.inr rfl) decide_eq_true_iff
      (splits_ok _)).congr ⟨?_, ?_⟩
    · rintro ⟨ha, hg, _⟩
      exact ⟨a, g, rfl, ha, hg⟩
    · rintro ⟨_, _, heq, ha, hg⟩
      cases heq
      exact ⟨ha, hg, trivial⟩
  · next hno => exact splits_badParam fun ⟨a, g, h, _⟩ => hno a g h

theorem splits_parseWriteAim (hl : bs.length = 12) : Splits (parseWriteAim bs) (Command.writeAim.paramsPass bs) := by
  unfold parseWriteAim
  split
  · next k v o1 o2 a1 a2 b1 b2 c1 c2 d1 d2 =>
    refine (splits_need (.inl rfl) indexOf_isSome fun _ => splits_need (.inl rfl) indexOf_isSome fun _ =>
      splits_ok _).congr ⟨?_, ?_⟩
    · rintro ⟨hk, hv, _⟩
      exact ⟨k, v, _, rfl, rfl, hk, hv⟩
    · rintro ⟨_, _, _, heq, _, hk, hv⟩
      cases heq
      exact ⟨hk, hv, trivial⟩
  · next hno =>
    rcases bs with _ | ⟨k, _ | ⟨v, _ | ⟨o1, _ | ⟨o2, _ | ⟨a1, _ | ⟨a2, _ | ⟨b1, _ | ⟨b2, _ | ⟨c1, _ | ⟨c2, _ | ⟨d1, _ |
      ⟨d2, _ | ⟨x, more⟩⟩⟩⟩⟩⟩⟩⟩⟩⟩⟩⟩⟩
    case cons.cons.cons.cons.cons.cons.cons.cons.cons.cons.cons.cons.nil =>
      exact absurd rfl (hno k v o1 o2 a1 a2 b1 b2 c1 c2 d1 d2)
    all_goals simp at hl

theorem splits_parseAimRules : Splits (parseAimRules bs) (Command.writeAimRules.paramsPass bs) := by
  unfold parseAimRules
  split
  · next k q r l x =>
    refine (splits_need (.inl rfl) indexOf_isSome fun _ => splits_need (.inl rfl) kindOf_isSome fun _ =>
      splits_ok _).congr ⟨?_, ?_⟩
    · rintro ⟨hk, hq, _⟩
      exact ⟨k, q, r, l, x, rfl, hk, hq⟩
    · rintro ⟨_, _, _, _, _, heq, hk, hq⟩
      cases heq
      exact ⟨hk, hq, trivial⟩
  · next hno => exact splits_badParam fun ⟨k, q, r, l, x, h, _⟩ => hno k q r l x h

theorem splits_parsePreload : Splits (parsePreload bs) (Command.setPreload.paramsPass bs) := by
  unfold parsePreload
  split
  · next k m =>
    refine (splits_need (.inl rfl) indexOf_isSome fun _ => splits_need (.inl rfl) flagOf_isSome fun _ =>
      splits_ok _).congr ⟨?_, ?_⟩
    · rintro ⟨hk, hm, _⟩
      exact ⟨k, m, rfl, hk, hm⟩
    · rintro ⟨_, _, heq, hk, hm⟩
      cases heq
      exact ⟨hk, hm, trivial⟩
  · next hno => exact splits_badParam fun ⟨k, m, h, _⟩ => hno k m h

theorem int16s_length : ∀ {l : List Byte} {n : Nat}, l.length = 2 * n → (int16s l).length = n
  | [], n, h => by
    simp only [List.length_nil] at h
    show 0 = n
    omega
  | [_], n, h => by
    simp only [List.length_cons, List.length_nil] at h
    omega
  | a :: b :: l, n, h => by
    simp only [List.length_cons] at h
    have hl := int16s_length (l := l) (n := n - 1) (by omega)
    show (int16s l).length + 1 = n
    omega

theorem int16s_getElem? : ∀ (l : List Byte) (v : Nat), 2 * v + 1 < l.length →
    (int16s l)[v]? = some (int16 (l.getD (2 * v) 0) (l.getD (2 * v + 1) 0))
  | a :: b :: l, 0, _ => rfl
  | a :: b :: l, v + 1, h => by
    simp only [List.length_cons] at h
    have hl := int16s_getElem? l v (by omega)
    show (int16s l)[v]? = _
    rw [hl]
    simp [Nat.mul_succ, List.getD_eq_getElem?_getD]
  | [], v, h => absurd h (by simp)
  | [_], v, h => absurd h (by simp)

/-- The twelve references of DEFINE-LOT lie in their range (R104). -/
theorem refs_within {refs : List Byte} (hl : refs.length = 24) : (int16s refs).all (within (-4000) 4000) = true ↔
    ∀ v : Fin 12, -4000 ≤ int16 (refs.getD (2 * v.val) 0) (refs.getD (2 * v.val + 1) 0) ∧
      int16 (refs.getD (2 * v.val) 0) (refs.getD (2 * v.val + 1) 0) ≤ 4000 := by
  have hat : ∀ v : Fin 12, (int16s refs)[v.val]? =
      some (int16 (refs.getD (2 * v.val) 0) (refs.getD (2 * v.val + 1) 0)) := fun v =>
    int16s_getElem? refs v.val (by omega)
  have hlen : (int16s refs).length = 12 := int16s_length (n := 12) (by omega)
  rw [List.all_eq_true]
  constructor
  · exact fun h v => within_iff.mp (h _ (List.mem_of_getElem? (hat v)))
  · intro h x hx
    obtain ⟨v, hv, rfl⟩ := List.getElem_of_mem hx
    have hx' := hat ⟨v, by omega⟩
    rw [List.getElem?_eq_getElem hv] at hx'
    rw [Option.some.inj hx']
    exact within_iff.mpr (h ⟨v, by omega⟩)

theorem splits_parseDefineLot (hl : bs.length = 30) : Splits (parseDefineLot bs) (Command.defineLot.paramsPass bs) := by
  unfold parseDefineLot
  split
  · next k c1 c2 c3 c4 q refs =>
    have hrefs : refs.length = 24 := by
      simp only [List.length_cons] at hl
      omega
    have hlen : (int16s refs).length = 12 := int16s_length (n := 12) (by omega)
    have htwelve : twelve (int16s refs) = some ⟨int16s refs, hlen⟩ := dif_pos hlen
    rw [htwelve]
    refine (splits_need (.inl rfl) indexOf_isSome fun _ => splits_check (.inr rfl) decide_eq_true_iff
      (splits_check (.inr rfl) (refs_within hrefs) (splits_need (.inl rfl) kindOf_isSome fun _ =>
        splits_ok _))).congr ⟨?_, ?_⟩
    · rintro ⟨hk, hcode, hvalues, hq, _⟩
      exact ⟨k, c1, c2, c3, c4, q, refs, rfl, hrefs, hk, hcode, hq, hvalues⟩
    · rintro ⟨_, _, _, _, _, _, _, heq, _, hk, hcode, hq, hvalues⟩
      cases heq
      exact ⟨hk, hcode, hvalues, hq, trivial⟩
  · next hno => exact splits_badParam fun ⟨k, a, b, d, e, q, refs, h, _⟩ => hno k a b d e q refs h

theorem splits_parseCorrection : Splits (parseCorrection bs) (Command.writeCorrection.paramsPass bs) := by
  unfold parseCorrection
  split
  · next k v h l =>
    refine (splits_need (.inl rfl) indexOf_isSome fun _ => splits_need (.inl rfl) indexOf_isSome fun _ =>
      splits_check (.inr rfl) within_iff (splits_ok _)).congr ⟨?_, ?_⟩
    · rintro ⟨hk, hv, ⟨hlow, hhigh⟩, _⟩
      exact ⟨k, v, h, l, rfl, hk, hv, hlow, hhigh⟩
    · rintro ⟨_, _, _, _, heq, hk, hv, hlow, hhigh⟩
      cases heq
      exact ⟨hk, hv, ⟨hlow, hhigh⟩, trivial⟩
  · next hno => exact splits_badParam fun ⟨k, v, h, l, heq, _⟩ => hno k v h l heq

theorem splits_parseDesk : Splits (parseDesk bs) (Command.writeDesk.paramsPass bs) := by
  by_cases hform : ∃ l1 l2 w m q c t o x, bs = [l1, l2, w, m, q, c, t, o, x]
  · obtain ⟨l1, l2, w, m, q, c, t, o, x, rfl⟩ := hform
    by_cases hm : m.toNat < 3
    · obtain ⟨mode, hmode⟩ := dayModeOf_some hm
      have hdesk : deskOf [l1, l2, w, m, q, c, t, o, x] =
          some ⟨nat16 l1 l2, w.toNat, mode, q.toNat, c.toNat, t.toNat, o.toNat, x.toNat⟩ := by
        simp only [deskOf, hmode, Option.map_some]
      unfold parseDesk
      rw [hdesk]
      refine (splits_check (.inr rfl) Iff.rfl (splits_ok _)).congr ⟨?_, ?_⟩
      · rintro ⟨hin, _⟩
        simp only [Desk.inRange, Bool.and_eq_true, decide_eq_true_eq, List.contains_iff_mem] at hin
        obtain ⟨⟨⟨⟨⟨⟨⟨⟨⟨⟨⟨h1, h2⟩, h3⟩, h4⟩, h5⟩, h6⟩, h7⟩, h8⟩, h9⟩, h10⟩, h11⟩, h12⟩ := hin
        exact ⟨l1, l2, w, m, q, c, t, o, x, rfl, h1, h2, h3, hm, h4, h5, h6, h7, h8, h9, h10, h11, h12⟩
      · rintro ⟨_, _, _, _, _, _, _, _, _, heq, h1, h2, h3, _, h4, h5, h6, h7, h8, h9, h10, h11, h12⟩
        cases heq
        refine ⟨?_, trivial⟩
        simp only [Desk.inRange, Bool.and_eq_true, decide_eq_true_eq, List.contains_iff_mem]
        exact ⟨⟨⟨⟨⟨⟨⟨⟨⟨⟨⟨h1, h2⟩, h3⟩, h4⟩, h5⟩, h6⟩, h7⟩, h8⟩, h9⟩, h10⟩, h11⟩, h12⟩
    · rw [parseDesk_noMode (Nat.not_lt.mp hm)]
      refine splits_badParam ?_
      rintro ⟨_, _, _, _, _, _, _, _, _, heq, _, _, _, hm', _⟩
      cases heq
      exact hm hm'
  · have hdesk : deskOf bs = none := by
      unfold deskOf
      split
      · next l1 l2 w m q c t o x => exact absurd ⟨l1, l2, w, m, q, c, t, o, x, rfl⟩ hform
      · rfl
    unfold parseDesk
    rw [hdesk]
    exact splits_badParam fun ⟨l1, l2, w, m, q, c, t, o, x, h, _⟩ => hform ⟨l1, l2, w, m, q, c, t, o, x, h⟩

theorem splits_parseHold : Splits (parseHold bs) (∃ k i l, bs = [k, i, l] ∧ namesItem k i ∧ l.toNat ≤ 60) := by
  unfold parseHold
  split
  · next k i l =>
    refine (splits_need (.inl rfl) itemOf_isSome fun _ => splits_check (.inr rfl) decide_eq_true_iff
      (splits_ok _)).congr ⟨?_, ?_⟩
    · rintro ⟨hi, hl, _⟩
      exact ⟨k, i, l, rfl, hi, hl⟩
    · rintro ⟨_, _, _, heq, hi, hl⟩
      cases heq
      exact ⟨hi, hl, trivial⟩
  · next hno => exact splits_badParam fun ⟨k, i, l, h, _⟩ => hno k i l h

theorem splits_parseRelease : Splits (parseRelease bs) (Command.release.paramsPass bs) := by
  unfold parseRelease
  split
  · next k i =>
    cases h : itemOf k i with
    | none =>
      refine splits_badParam ?_
      rintro ⟨_, _, heq, hi⟩
      cases heq
      rw [← itemOf_isSome, h] at hi
      cases hi
    | some item => exact .inl ⟨⟨k, i, rfl, itemOf_isSome.mp (by rw [h]; rfl)⟩, item, rfl⟩
  · next hno => exact splits_badParam fun ⟨k, i, h, _⟩ => hno k i h

theorem splits_parseAck : Splits (parseAck bs) (Command.ackAlert.paramsPass bs) := by
  unfold parseAck
  split
  · next k t =>
    refine (splits_need (.inl rfl) indexOf_isSome fun _ => splits_ok _).congr ⟨?_, ?_⟩
    · rintro ⟨hk, _⟩
      exact ⟨k, t, rfl, hk⟩
    · rintro ⟨_, _, heq, hk⟩
      cases heq
      exact ⟨hk, trivial⟩
  · next hno => exact splits_badParam fun ⟨k, t, h, _⟩ => hno k t h

theorem splits_parseKinds : Splits (parseKinds bs) (Command.setSubscription.paramsPass bs) := by
  unfold parseKinds
  split
  · next h l =>
    refine (splits_check (.inl rfl) decide_eq_true_iff (splits_ok _)).congr ⟨?_, ?_⟩
    · rintro ⟨hk, _⟩
      exact ⟨h, l, rfl, hk⟩
    · rintro ⟨_, _, heq, hk⟩
      cases heq
      exact ⟨hk, trivial⟩
  · next hno => exact splits_badParam fun ⟨h, l, heq, _⟩ => hno h l heq

theorem splits_parseAttention : Splits (parseAttention bs) (Command.setAttention.paramsPass bs) := by
  unfold parseAttention
  split
  · next m g =>
    refine (splits_check (.inl rfl) decide_eq_true_iff (splits_check (.inl rfl) decide_eq_true_iff
      (splits_ok _))).congr ⟨?_, ?_⟩
    · rintro ⟨hm, hg, _⟩
      exact ⟨m, g, rfl, hm, hg⟩
    · rintro ⟨_, _, heq, hm, hg⟩
      cases heq
      exact ⟨hm, hg, trivial⟩
  · next hno => exact splits_badParam fun ⟨m, g, h, _⟩ => hno m g h

theorem splits_parseSetReader : Splits (parseSetReader bs) (Command.setReader.paramsPass bs) := by
  unfold parseSetReader
  split
  · next a e r b x =>
    refine (splits_need (.inl rfl) indexOf_isSome fun _ => splits_need (.inl rfl) flagOf_isSome fun _ =>
      splits_need (.inl rfl) rateOf_isSome fun _ => splits_need (.inl rfl) flagOf_isSome fun _ =>
      splits_check (.inr rfl) decide_eq_true_iff (splits_ok _)).congr ⟨?_, ?_⟩
    · rintro ⟨ha, he, ⟨hlow, hhigh⟩, hb, hx, _⟩
      exact ⟨a, e, r, b, x, rfl, ha, he, hlow, hhigh, hb, hx⟩
    · rintro ⟨_, _, _, _, _, heq, ha, he, hlow, hhigh, hb, hx⟩
      cases heq
      exact ⟨ha, he, ⟨hlow, hhigh⟩, hb, hx, trivial⟩
  · next hno => exact splits_badParam fun ⟨a, e, r, b, x, h, _⟩ => hno a e r b x h

theorem splits_parseLock : Splits (parseLock bs) (∃ a, bs = [a] ∧ a.toNat < 4) := by
  unfold parseLock
  split
  · next a =>
    refine (splits_check (.inr rfl) decide_eq_true_iff (splits_ok _)).congr ⟨?_, ?_⟩
    · rintro ⟨ha, _⟩
      exact ⟨a, rfl, Nat.lt_succ_of_le ha⟩
    · rintro ⟨_, heq, ha⟩
      cases heq
      exact ⟨Nat.le_of_lt_succ ha, trivial⟩
  · next hno => exact splits_badParam fun ⟨a, h, _⟩ => hno a h
end

end Sys2Proof.Machine
end

-- ==== Proofs: the refusals of commands ====
section
/-! PROOFS. The common refusals of every command, step by step (O42). -/
namespace Sys2Proof.Machine

/-! ### Every command's row -/

/-- A parser of a command's parameters: it answers with operands exactly when they pass. -/
def ParseLaw {α : Type} (c : Command) (parse : List Byte → Except Status α) : Prop :=
  (∀ bs, c.paramsPass bs → bs.length = c.paramLen) ∧
  ∀ bs, bs.length = c.paramLen → Splits (parse bs) (c.paramsPass bs)

/-- A row that carries out a command at a port after the common checks of R159. -/
def RowLaw (c : Command) (p : Port) (row : Instr) : Prop :=
  ∃ (α : Type) (parse : List Byte → Except Status α) (item : α → Option Item) (go : State → Byte → α → State),
    ParseLaw c parse ∧ ∀ s, exec row s = .next (
      match prepare c p s parse item with
      | .notNow => s
      | .refused code st => s.answer p code st []
      | .go code a => go s code a)

section
variable {c : Command}

theorem parseLaw_none (hlen : c.paramLen = 0) (hpass : ∀ bs, c.paramsPass bs ↔ bs = []) : ParseLaw c parseNone :=
  ⟨fun bs h => by rw [(hpass bs).mp h, hlen]; rfl, fun bs _ => (splits_parseNone bs).congr (hpass bs).symm⟩

theorem parseLaw_index {n : Nat} (hlen : c.paramLen = 1) (hpass : ∀ bs, c.paramsPass bs ↔ ∃ a, bs = [a] ∧ a.toNat < n) :
    ParseLaw c (parseIndex n) := by
  refine ⟨fun bs h => ?_, fun bs _ => (splits_parseIndex bs n).congr (hpass bs).symm⟩
  obtain ⟨a, rfl, _⟩ := (hpass bs).mp h
  exact hlen.symm
end

theorem parseLaw_enroll : ParseLaw .enrollLine parseEnroll :=
  ⟨fun _ ⟨_, _, _, _, h, _⟩ => h ▸ rfl, fun bs _ => splits_parseEnroll bs⟩

theorem parseLaw_setLineAim : ParseLaw .setLineAim parseSetLineAim :=
  ⟨fun _ ⟨_, _, h, _⟩ => h ▸ rfl, fun bs _ => splits_parseSetLineAim bs⟩

theorem parseLaw_chem : ParseLaw .chemEvent parseChem :=
  ⟨fun _ ⟨_, _, h, _⟩ => h ▸ rfl, fun bs _ => splits_parseChem bs⟩

theorem parseLaw_void : ParseLaw .voidPoint parseVoid :=
  ⟨fun _ ⟨_, _, _, h, _⟩ => h ▸ rfl, fun bs _ => splits_parseVoid bs⟩

theorem parseLaw_point : ParseLaw .readPoint parsePoint :=
  ⟨fun _ ⟨_, _, h, _⟩ => h ▸ rfl, fun bs _ => splits_parsePoint bs⟩

theorem parseLaw_writeAim : ParseLaw .writeAim parseWriteAim := by
  refine ⟨fun bs h => ?_, fun bs hl => splits_parseWriteAim bs hl⟩
  obtain ⟨k, v, rest, rfl, hrest, _⟩ := h
  simp [hrest, Command.paramLen]

theorem parseLaw_aimRules : ParseLaw .writeAimRules parseAimRules :=
  ⟨fun _ ⟨_, _, _, _, _, h, _⟩ => h ▸ rfl, fun bs _ => splits_parseAimRules bs⟩

theorem parseLaw_preload : ParseLaw .setPreload parsePreload :=
  ⟨fun _ ⟨_, _, h, _⟩ => h ▸ rfl, fun bs _ => splits_parsePreload bs⟩

theorem parseLaw_defineLot : ParseLaw .defineLot parseDefineLot := by
  refine ⟨fun bs h => ?_, fun bs hl => splits_parseDefineLot bs hl⟩
  obtain ⟨k, a, b, d, e, q, refs, rfl, hrefs, _⟩ := h
  simp [hrefs, Command.paramLen]

theorem parseLaw_correction : ParseLaw .writeCorrection parseCorrection :=
  ⟨fun _ ⟨_, _, _, _, h, _⟩ => h ▸ rfl, fun bs _ => splits_parseCorrection bs⟩

theorem parseLaw_desk : ParseLaw .writeDesk parseDesk :=
  ⟨fun _ ⟨_, _, _, _, _, _, _, _, _, h, _⟩ => h ▸ rfl, fun bs _ => splits_parseDesk bs⟩

theorem parseLaw_hold {c : Command} (hlen : c.paramLen = 3)
    (hpass : ∀ bs, c.paramsPass bs ↔ ∃ k i l, bs = [k, i, l] ∧ namesItem k i ∧ l.toNat ≤ 60) :
    ParseLaw c parseHold := by
  refine ⟨fun bs h => ?_, fun bs _ => (splits_parseHold bs).congr (hpass bs).symm⟩
  obtain ⟨k, i, l, rfl, _⟩ := (hpass bs).mp h
  exact hlen.symm

theorem parseLaw_release : ParseLaw .release parseRelease :=
  ⟨fun _ ⟨_, _, h, _⟩ => h ▸ rfl, fun bs _ => splits_parseRelease bs⟩

theorem parseLaw_ack : ParseLaw .ackAlert parseAck :=
  ⟨fun _ ⟨_, _, h, _⟩ => h ▸ rfl, fun bs _ => splits_parseAck bs⟩

theorem parseLaw_kinds : ParseLaw .setSubscription parseKinds :=
  ⟨fun _ ⟨_, _, h, _⟩ => h ▸ rfl, fun bs _ => splits_parseKinds bs⟩

theorem parseLaw_attention : ParseLaw .setAttention parseAttention :=
  ⟨fun _ ⟨_, _, h, _⟩ => h ▸ rfl, fun bs _ => splits_parseAttention bs⟩

theorem parseLaw_setReader : ParseLaw .setReader parseSetReader :=
  ⟨fun _ ⟨_, _, _, _, _, h, _⟩ => h ▸ rfl, fun bs _ => splits_parseSetReader bs⟩

theorem parseLaw_lock : ParseLaw .setLock parseLock :=
  ⟨fun _ ⟨_, h, _⟩ => h ▸ rfl, fun bs _ => splits_parseLock bs⟩

/-- The common checks stand before every command. -/
theorem rowLaw (c : Command) (p : Port) (ready : BitVec 4) (straps : BitVec 3) : RowLaw c p (c.row p ready straps) := by
  cases c with
  | enrollLine => exact ⟨_, _, _, _, parseLaw_enroll, fun _ => rfl⟩
  | setLineAim => exact ⟨_, _, _, _, parseLaw_setLineAim, fun _ => rfl⟩
  | chemEvent => exact ⟨_, _, _, _, parseLaw_chem, fun _ => rfl⟩
  | voidPoint => exact ⟨_, _, _, _, parseLaw_void, fun _ => rfl⟩
  | readPoint => exact ⟨_, _, _, _, parseLaw_point, fun _ => rfl⟩
  | writeAim => exact ⟨_, _, _, _, parseLaw_writeAim, fun _ => rfl⟩
  | writeAimRules => exact ⟨_, _, _, _, parseLaw_aimRules, fun _ => rfl⟩
  | setPreload => exact ⟨_, _, _, _, parseLaw_preload, fun _ => rfl⟩
  | defineLot => exact ⟨_, _, _, _, parseLaw_defineLot, fun _ => rfl⟩
  | writeCorrection => exact ⟨_, _, _, _, parseLaw_correction, fun _ => rfl⟩
  | writeDesk => exact ⟨_, _, _, _, parseLaw_desk, fun _ => rfl⟩
  | hold | renew => exact ⟨_, _, _, _, parseLaw_hold rfl fun _ => Iff.rfl, fun _ => rfl⟩
  | release => exact ⟨_, _, _, _, parseLaw_release, fun _ => rfl⟩
  | ackAlert => exact ⟨_, _, _, _, parseLaw_ack, fun _ => rfl⟩
  | setSubscription => exact ⟨_, _, _, _, parseLaw_kinds, fun _ => rfl⟩
  | setAttention => exact ⟨_, _, _, _, parseLaw_attention, fun _ => rfl⟩
  | setReader => exact ⟨_, _, _, _, parseLaw_setReader, fun _ => rfl⟩
  | setLock => exact ⟨_, _, _, _, parseLaw_lock, fun _ => rfl⟩
  | restart =>
    refine ⟨Unit, parseNone, noItem, fun s _ _ => s.resetWhole ready straps s.level, parseLaw_none rfl fun _ => Iff.rfl,
      fun s => ?_⟩
    show execRestart p ready straps s = _
    unfold execRestart
    cases prepare .restart p s parseNone noItem <;> rfl
  | suspendLine | resumeLine | withdrawLine | readLine | readDrift | readAims | discardPending | makeCurrent | retireLot
  | clearLot | adoptProposal | readLot | readReader | clearReaderFaults | testReader =>
    exact ⟨_, _, _, _, parseLaw_index rfl fun _ => Iff.rfl, fun _ => rfl⟩
  | closeDay | readDay | readHolds | nextAlert | getAttention | saveImage | readStore | resetPort =>
    exact ⟨_, _, _, _, parseLaw_none rfl fun _ => Iff.rfl, fun _ => rfl⟩

/-! ### The steps of R159 -/

section
variable {s : State} {p : Port} {c : Command} {params : List Byte} {row : Instr}

theorem row_length (hrow : RowLaw c p row) (hx : s.executes p c params) (hl : params.length ≠ c.paramLen) :
    exec row s = .next (s.answer p c.code .badParam []) := by
  obtain ⟨α, parse, item, go, _, heq⟩ := hrow
  have hprep : prepare c p s parse item = .refused c.code .badParam := by
    simp [prepare, show (s.port p).executing = _ from hx, hl]
  rw [heq, hprep]

theorem row_fails (hrow : RowLaw c p row) (hx : s.executes p c params) (hl : params.length = c.paramLen)
    (hno : ¬ c.paramsPass params) :
    ∃ st, (st = .badParam ∨ st = .range) ∧ exec row s = .next (s.answer p c.code st []) := by
  obtain ⟨α, parse, item, go, ⟨_, hsplits⟩, heq⟩ := hrow
  obtain ⟨hpass, _⟩ | ⟨_, st, hst, hp⟩ := hsplits params hl
  · exact absurd hpass hno
  · have hprep : prepare c p s parse item = .refused c.code st := by
      simp [prepare, show (s.port p).executing = _ from hx, hl, hp]
    exact ⟨st, hst, by rw [heq, hprep]⟩

theorem row_refused (hrow : RowLaw c p row) (hx : s.executes p c params) (hpass : c.paramsPass params) {st : Status}
    (hcommon : ∀ item, commonRefusal s p c item = some st) : exec row s = .next (s.answer p c.code st []) := by
  obtain ⟨α, parse, item, go, ⟨hlen, hsplits⟩, heq⟩ := hrow
  have hl := hlen params hpass
  obtain ⟨_, a, hp⟩ | ⟨hno, _⟩ := hsplits params hl
  · have hprep : prepare c p s parse item = .refused c.code st := by
      simp [prepare, show (s.port p).executing = _ from hx, hl, hp, hcommon]
    rw [heq, hprep]
  · exact absurd hpass hno

/-- A command that a common check refuses is answered with its status, or with a status of steps 2 and 3. -/
theorem row_refused_or (hrow : RowLaw c p row) (hx : s.executes p c params) {st : Status}
    (hcommon : ∀ item, commonRefusal s p c item = some st) :
    ∃ st', (st' = st ∨ st' = .badParam ∨ st' = .range) ∧ exec row s = .next (s.answer p c.code st' []) := by
  by_cases hpass : c.paramsPass params
  · exact ⟨st, .inl rfl, row_refused hrow hx hpass hcommon⟩
  · by_cases hl : params.length = c.paramLen
    · obtain ⟨st', hst, hexec⟩ := row_fails hrow hx hl hpass
      exact ⟨st', .inr hst, hexec⟩
    · exact ⟨_, .inr (.inl rfl), row_length hrow hx hl⟩

theorem commonRefusal_loading (hl : s.store.loading = true) (hc : c ≠ .readStore) (item : Option Item) :
    commonRefusal s p c item = some .busy := by
  simp [commonRefusal, hl, hc]

theorem commonRefusal_saving (hs : s.store.isSaving = true) (hc : c.changesImage = true) (item : Option Item) :
    commonRefusal s p c item = some .storeBusy := by
  have hl : s.store.loading = false := by
    unfold Store.isSaving at hs
    unfold Store.loading
    split at hs <;> simp_all
  simp [commonRefusal, hl, hs, hc]

theorem commonRefusal_locked (hi : s.store.phase = .idle) (hc : c.locked s.level = true) (item : Option Item) :
    commonRefusal s p c item = some .locked := by
  have hl : s.store.loading = false := by simp [Store.loading, hi]
  have hs : s.store.isSaving = false := by simp [Store.isSaving, hi]
  simp [commonRefusal, hl, hs, hc]

theorem paramsPass_nil (h : c.paramLen = 0) : c.paramsPass [] := by
  cases c <;> first | exact rfl | exact absurd h (by decide)

/-- A command in execution is refused, or its act is done. -/
theorem runCommand_executing {α : Type} {parse : List Byte → Except Status α} {item : α → Option Item}
    {act : α → State → Answer} (hx : s.executes p c params) :
    (∃ st, runCommand c p s parse item act = s.answer p c.code st []) ∨
    ∃ a s' st d, act a s = .done s' st d ∧ runCommand c p s parse item act = s'.answer p c.code st d := by
  by_cases hl : params.length = c.paramLen
  · cases hp : parse params with
    | error st => exact .inl ⟨st, runCommand_parse hx hl hp⟩
    | ok a =>
      cases hc : commonRefusal s p c (item a) with
      | some st => exact .inl ⟨st, runCommand_common hx hl hp hc⟩
      | none =>
        have hgo := runCommand_go (act := act) hx hl hp (commonRefusal_none.mp hc)
        cases ha : act a s with
        | refuse st => exact .inl ⟨st, by rw [hgo, ha]⟩
        | done s' st d => exact .inr ⟨a, s', st, d, ha, by rw [hgo, ha]⟩
  · exact .inl ⟨_, runCommand_length hx hl⟩

/-- A refusal that stands in the port's buffer is the command's own, without data (R159). -/
theorem row_refusal_alone {ready : BitVec 4} {straps : BitVec 3} {t : State} {r : Response} (hx : s.executes p c params)
    (hc : c ≠ .restart) (h : exec (c.row p ready straps) s = .next t) (hr : (t.port p).response = some r)
    (href : r.status.refusal = true) : r.code = c.code ∧ r.data = [] ∧ t = s.answer p c.code r.status [] := by
  obtain ⟨α, parse, item, act, hrow, hact⟩ := row_runCommand hc p ready straps
  rw [hrow] at h
  rw [← Host.Outcome.next.inj h] at hr ⊢
  obtain ⟨st, heq⟩ | ⟨a, s', st, d, ha, heq⟩ := runCommand_executing (parse := parse) (item := item) (act := act) hx
  · rw [heq] at hr ⊢
    rw [State.answer_port] at hr
    rw [← Option.some.inj hr]
    exact ⟨rfl, rfl, rfl⟩
  · rw [heq, State.answer_port] at hr
    rw [← Option.some.inj hr] at href
    obtain ⟨hst, _⟩ := hact a s s' st d ha
    rcases hst with rfl | rfl
    · exact absurd (show Status.ok.refusal = true from href) (by decide)
    · exact absurd (show Status.nothing.refusal = true from href) (by decide)
end

/-- The commands whose one parameter is an index. -/
theorem row_index {c : Command} {a : Byte}
    (h : (c ∈ [Command.suspendLine, .resumeLine, .withdrawLine, .readLine, .readDrift] ∧ 96 ≤ a.toNat) ∨
      (c ∈ [Command.readAims, .discardPending, .makeCurrent, .retireLot, .clearLot, .adoptProposal, .readLot] ∧
        16 ≤ a.toNat) ∨
      (c ∈ [Command.readReader, .clearReaderFaults, .testReader] ∧ 4 ≤ a.toNat)) :
    ∃ n, n ≤ a.toNat ∧ ∀ (s : State) (p : Port) (ready : BitVec 4) (straps : BitVec 3), s.executes p c [a] →
      ∃ (item : Fin n → Option Item) (act : Fin n → State → Answer),
        c.paramLen = 1 ∧ exec (c.row p ready straps) s = .next (runCommand c p s (parseIndex n) item act) := by
  simp only [List.mem_cons, List.not_mem_nil, or_false] at h
  rcases h with ⟨hc, hn⟩ | ⟨hc, hn⟩ | ⟨hc, hn⟩
  · refine ⟨96, hn, fun s p ready straps _ => ?_⟩
    rcases hc with rfl | rfl | rfl | rfl | rfl <;> exact ⟨_, _, rfl, rfl⟩
  · refine ⟨16, hn, fun s p ready straps _ => ?_⟩
    rcases hc with rfl | rfl | rfl | rfl | rfl | rfl | rfl <;> exact ⟨_, _, rfl, rfl⟩
  · refine ⟨4, hn, fun s p ready straps _ => ?_⟩
    rcases hc with rfl | rfl | rfl <;> exact ⟨_, _, rfl, rfl⟩

/-- Settles O42: each step of R159 by the first check that fails. -/
theorem refusalsOfCommands : Obligations.RefusalsOfCommands := by
  intro s p ready straps
  have hrow : ∀ c : Command, RowLaw c p (c.row p ready straps) := fun c => rowLaw c p ready straps
  refine ⟨fun t ht hk => ?_, fun c params hx hl => row_length (hrow c) hx hl, fun c a hx hindex => ?_,
    fun c params hx hc hload => ?_, fun c params hx hc hsave => row_refused_or (hrow c) hx (commonRefusal_saving hsave hc),
    fun c params hx hc hi => row_refused_or (hrow c) hx (commonRefusal_locked hi hc),
    fun c params hx hl hno => row_fails (hrow c) hx hl hno, fun c params hx hpass => ⟨fun hload hc => ?_,
      fun hsave hc => ?_, fun hi hc => ?_⟩, fun c params t r hx hc h hr href => row_refusal_alone hx hc h hr href⟩
  · have hunknown : exec (.unknownCommand p) s = .next (
      match (s.port p).executing with
      | none => s
      | some t => if knownCode t.code then s else s.answer p t.code .unknown []) := rfl
    rw [hunknown, ht]
    exact congrArg Host.Outcome.next (if_neg (hk ▸ nofun))
  · obtain ⟨n, hn, hcommand⟩ := row_index hindex
    obtain ⟨item, act, hlen, hexec⟩ := hcommand s p ready straps hx
    exact command_parse hexec hx hlen.symm (parseIndex_outside hn)
  · obtain ⟨st, hst, hexec⟩ := row_refused_or (hrow c) hx (commonRefusal_loading hload hc)
    by_cases hnone : c.paramLen = 0 ∧ params = []
    · obtain ⟨hlen, rfl⟩ := hnone
      exact ⟨.busy, rfl, fun _ _ => rfl,
        row_refused (hrow c) hx (paramsPass_nil hlen) (commonRefusal_loading hload hc)⟩
    · refine ⟨st, ?_, fun hlen hparams => absurd ⟨hlen, hparams⟩ hnone, hexec⟩
      rcases hst with rfl | rfl | rfl <;> rfl
  · exact row_refused (hrow c) hx hpass (commonRefusal_loading hload hc)
  · exact row_refused (hrow c) hx hpass (commonRefusal_saving hsave hc)
  · exact row_refused (hrow c) hx hpass (commonRefusal_locked hi hc)

end Sys2Proof.Machine
end

-- ==== Proofs: the records of the read commands ====
section
/-! PROOFS. The layouts that the read commands answer with, field by field, and their lengths (O36). -/
namespace Sys2Proof.Machine

/-! ### The lengths -/

theorem optField_map_length {α : Type} {w : Nat} {f : α → List Byte} (hf : ∀ a, (f a).length = w) (o : Option α) :
    (optField w (o.map f)).length = w + 1 :=
  optField_length w _ fun b hb => by
    obtain ⟨a, _, rfl⟩ := Option.map_eq_some_iff.mp hb
    exact hf a

theorem optBytes16_length {α : Type} (g : α → Nat) (o : Option α) :
    (optField 2 (o.map fun a => bytes16 (g a))).length = 3 := optField_map_length (fun a => bytes16_length (g a)) o

theorem optSigned16_length {α : Type} (g : α → Int) (o : Option α) :
    (optField 2 (o.map fun a => signed16 (g a))).length = 3 := optField_map_length (fun a => signed16_length (g a)) o

theorem optBytes32_length {α : Type} (g : α → Nat) (o : Option α) :
    (optField 4 (o.map fun a => bytes32 (g a))).length = 5 := optField_map_length (fun a => bytes32_length (g a)) o

theorem valueSet_length (t : Table Bool 12) : (valueSet t).length = 2 := rfl

theorem readings_length (t : Table Reading 12) : (eachOf Reading.bytes t).length = 36 :=
  eachOf_length Reading.bytes 3 (fun _ => rfl) t

theorem verdicts_length (t : Table Verdict 12) : (eachOf (fun v => [Verdict.code v]) t).length = 12 :=
  eachOf_length _ 1 (fun _ => rfl) t

theorem waitingTable_length {n : Nat} (t : Table (Option AlertKind) n) : (eachOf waitingBytes t).length = 2 * n :=
  eachOf_length waitingBytes 2 (optField_map_length fun _ => rfl) t

theorem lineRecord_length (o : Option LineCtx) : (lineRecord o).length = 43 := by
  unfold lineRecord
  simp [optBytes16_length, optField_map_length, waitingTable_length]

theorem FirstReading.bytes_length (f : FirstReading) : f.bytes.length = 60 := by
  simp [FirstReading.bytes, readings_length, signed16s_length]

theorem CrossPart.bytes_length (x : CrossPart) : x.bytes.length = 113 := by
  simp [CrossPart.bytes, readings_length, signed16s_length]

theorem Point.bytes_length (q : Point) : q.bytes.length = 324 := by
  simp [Point.bytes, readings_length, signed16s_length, verdicts_length, valueSet_length,
    optField_map_length FirstReading.bytes_length, optField_map_length CrossPart.bytes_length,
    optField_map_length signed16s_length, optField_map_length verdicts_length]

theorem Point.driftBytes_length (q : Point) : q.driftBytes.length = 45 := by
  simp [Point.driftBytes, signed16s_length, verdicts_length, valueSet_length]

theorem Filter.bytes_length (f : Filter) : f.bytes.length = 7 := by
  simp [Filter.bytes, optField_map_length signed16_length]

theorem LineCtx.driftBytes_length (c : LineCtx) : c.driftBytes.length = 108 := by
  rw [LineCtx.driftBytes, List.length_append, eachOf_length Filter.bytes 7 Filter.bytes_length,
    eachOf_length _ 2 (optField_map_length fun _ => rfl)]

theorem ShiftEntry.bytes_length (e : ShiftEntry) : e.bytes.length = 6 := by
  simp [ShiftEntry.bytes, optSigned16_length]

theorem ShiftRecord.bytes_length (r : ShiftRecord) : r.bytes.length = 74 := by
  simp [ShiftRecord.bytes, eachOf_length ShiftEntry.bytes 6 ShiftEntry.bytes_length]

theorem proposalBytes_length (q : Table (Option Int) 12) : (proposalBytes q).length = 36 :=
  eachOf_length _ 3 (optField_map_length signed16_length) q

theorem lotRecord_length (o : Option Lot) : (lotRecord o).length = 218 := by
  simp [lotRecord, optField_map_length ShiftRecord.bytes_length, optField_map_length proposalBytes_length,
    optBytes32_length, optField_map_length, signed16s_length, waitingTable_length, -Option.map_bind]

theorem dayRecord_length (s : State) : s.dayRecord.length = 34 := by
  simp [State.dayRecord, optBytes16_length, optField_map_length, Summary.bytes]

theorem Hold.bytes_length (h : Hold) : h.bytes.length = 4 := by
  obtain ⟨item, owner, lease⟩ := h
  cases item <;> rfl

theorem holdsRecord_length (s : State) : s.holdsRecord.length = 42 := by
  rw [State.holdsRecord, List.length_append, flatMap_length _ 5 fun _ => optField_map_length Hold.bytes_length _,
    List.length_finRange]
  rfl

theorem Calibration.bytes_length (c : Calibration) : c.bytes.length = 14 := by
  rw [Calibration.bytes, List.length_append, List.length_append,
    flatMap_length _ 3 fun _ => optField_map_length bytes16_length _,
    optField_map_length bytes16_length, List.length_finRange]
  rfl

theorem FaultRecord.bytes_length (f : FaultRecord) : f.bytes.length = 10 := by
  simp [FaultRecord.bytes, optField_map_length bytes16_length, optField_map_length]

theorem Reader.record_length (r : Reader) : r.record.length = 33 := by
  simp [Reader.record, Calibration.bytes_length, FaultRecord.bytes_length]

theorem Store.record_length (u : Store) : u.record.length = 6 := by
  simp [Store.record, optField_map_length]

theorem AlertEntry.bytes_length (e : AlertEntry) : e.bytes.length = 13 := by
  have hsubject : e.key.subject.bytes.length = 2 := by cases e.key.subject <;> rfl
  simp [AlertEntry.bytes, hsubject]

/-! ### Quantities and sets of values -/

theorem signed16_of_nonneg {i : Int} (hlow : 0 ≤ i) (hhigh : i < 32768) : signed16 i = bytes16 i.toNat := by
  have hnat : (BitVec.ofInt 16 i).toNat = i.toNat := by
    rw [BitVec.toNat_ofInt]
    omega
  rw [signed16, hnat]

theorem signed16_of_neg {i : Int} (hlow : -32768 ≤ i) (hhigh : i < 0) : signed16 i = bytes16 (i + 65536).toNat := by
  have hnat : (BitVec.ofInt 16 i).toNat = (i + 65536).toNat := by
    rw [BitVec.toNat_ofInt]
    omega
  rw [signed16, hnat]

/-- The number whose bits are a set's members. -/
def setNumber {n : Nat} (f : Fin n → Bool) : Nat :=
  (List.finRange n).foldl (fun m v => if f v then m + 2 ^ v.val else m) 0

theorem setNumber_succ {n : Nat} (f : Fin (n + 1) → Bool) :
    setNumber f = if f (Fin.last n) then setNumber (fun v : Fin n => f v.castSucc) + 2 ^ n
      else setNumber fun v : Fin n => f v.castSucc := by
  simp [setNumber, List.finRange_succ_last, List.foldl_append, List.foldl_map]

theorem setNumber_bits : ∀ {n : Nat} (f : Fin n → Bool),
    setNumber f < 2 ^ n ∧ ∀ v : Fin n, (setNumber f).testBit v.val = f v
  | 0, _ => ⟨Nat.one_pos, fun v => v.elim0⟩
  | n + 1, f => by
    obtain ⟨hlt, hbits⟩ := setNumber_bits fun v : Fin n => f v.castSucc
    have hpow : 2 ^ (n + 1) = 2 ^ n + 2 ^ n := by ring
    rw [setNumber_succ]
    cases hlast : f (Fin.last n) with
    | false =>
      refine ⟨by simp only [Bool.false_eq_true, if_false]; omega, Fin.lastCases ?_ hbits⟩
      exact (Nat.testBit_lt_two_pow hlt).trans hlast.symm
    | true =>
      refine ⟨by simp only [if_true]; omega, Fin.lastCases ?_ fun v => ?_⟩
      · simp [Nat.add_comm _ (2 ^ n), Nat.testBit_two_pow_add_eq, Nat.testBit_lt_two_pow hlt, hlast]
      · rw [if_pos rfl, Nat.add_comm, Fin.val_castSucc, Nat.testBit_two_pow_add_gt v.isLt]
        exact hbits v

theorem valueSet_bits (t : Table Bool 12) :
    ∃ m, valueSet t = bytes16 m ∧ m < 4096 ∧ ∀ v : Fin 12, m.testBit v.val = t.get v := by
  obtain ⟨hlt, hbits⟩ := setNumber_bits t.get
  exact ⟨setNumber t.get, rfl, hlt, hbits⟩

/-! ### The records field by field -/

theorem lineRecord_none : lineRecord none = List.replicate 43 0 := by decide

theorem Point.bytes_eq (q : Point) : q.bytes =
    bytes16 q.day ++ [q.state.code, byte q.head.val] ++ bytes32 q.code ++ [byte q.slot.val, q.epoch, flagByte q.settling,
      flagByte q.doubtful, byte q.reruns] ++ q.readings.cells.flatMap Reading.bytes ++ q.values.cells.flatMap signed16 ++
    q.deviations.cells.flatMap signed16 ++ (q.verdicts.cells.flatMap fun v => [v.code]) ++
    optField 60 (q.first.map fun f => f.readings.cells.flatMap Reading.bytes ++ f.values.cells.flatMap signed16) ++
    optField 113 (q.cross.map fun x =>
      bytes32 x.code ++ [byte x.slot.val] ++ x.readings.cells.flatMap Reading.bytes ++ x.values.cells.flatMap signed16 ++
      x.deviations.cells.flatMap signed16 ++ x.differences.cells.flatMap signed16) ++
    match q.state with
    | .final r v a => 1 :: r.cells.flatMap signed16 ++ (1 :: v.cells.flatMap fun x => [x.code]) ++ valueSet a
    | _ => List.replicate 40 0 := by
  unfold Point.bytes
  rw [List.append_assoc (_ ++ _) _ (valueSet _), List.append_assoc (_ ++ _) _ (_ ++ valueSet _)]
  refine congrArg₂ (· ++ ·) rfl ?_
  rw [← List.append_assoc]
  cases q.state with
  | provisional => rfl
  | final r v a => rfl
  | void => rfl

theorem Point.driftBytes_final {q : Point} {r : Table Int 12} {v : Table Verdict 12} {a : Table Bool 12}
    (h : q.state = .final r v a) :
    q.driftBytes = bytes16 q.day ++ bytes32 q.code ++ [byte q.slot.val] ++ r.cells.flatMap signed16 ++
      (v.cells.flatMap fun x => [x.code]) ++ valueSet a := by
  unfold Point.driftBytes
  rw [h]
  rfl

theorem lotRecord_none : lotRecord none = List.replicate 218 0 := by
  have hvalues : eachOf signed16 (Table.fill 12 0) = List.replicate 24 0 := rfl
  have hwaiting : eachOf waitingBytes (Table.fill 12 none) = List.replicate 24 0 := rfl
  simp only [lotRecord, Option.map_none, Option.bind_none, Option.getD_none, optField, hvalues, hwaiting]
  show List.replicate 1 0 ++ List.replicate 5 0 ++ List.replicate 2 0 ++ List.replicate 24 0 ++ List.replicate 24 0 ++
    List.replicate 24 0 ++ List.replicate 2 0 ++ List.replicate 75 0 ++ List.replicate 37 0 ++ List.replicate 24 0 = _
  simp only [List.replicate_append_replicate]

theorem lotRecord_some (l : Lot) : lotRecord (some l) =
      [lotStateCode (some l.state)] ++ 1 :: bytes32 l.code ++ [1, l.kind.code] ++ l.refs.cells.flatMap signed16 ++
      l.active.cells.flatMap signed16 ++ l.pending.cells.flatMap signed16 ++
      [flagByte (decide (l.active ≠ l.pending)), byte (match l.state with | .retiring c => c | _ => 0)] ++
      optField 74 (l.shift.map fun r => bytes16 r.day ++ r.entries.cells.flatMap fun e =>
        [sideCode (e.shift.map Shift.side)] ++ optField 2 (e.shift.map fun x => signed16 x.magnitude) ++
          [byte e.participants, byte e.agreeing]) ++
      optField 36 (l.proposal.map fun q => q.cells.flatMap fun x => optField 2 (x.map signed16)) ++
      l.waiting.cells.flatMap fun w => optField 1 (w.map fun k => [byte k.code]) := by
  obtain ⟨state, code, kind, refs, active, pending, shift, proposal, waiting⟩ := l
  cases state with
  | defined => rfl
  | current => rfl
  | retiring c => rfl
  | retired => rfl

theorem dayRecord_eq (s : State) : s.dayRecord =
    bytes16 s.day.number ++ [s.day.state.code] ++ optField 1 (s.day.state.stage.map fun c => [c]) ++
    bytes16 s.day.timer ++ [flagByte s.day.firstClose] ++ optField 2 (s.day.last.map fun x => bytes16 x.day) ++
    optField 1 (s.day.last.map fun x => [x.cause.code]) ++
    [flagByte s.day.missedEdge, byte s.drain, byte s.queue.length] ++ bytes16 s.day.desk.length ++
    [byte s.day.desk.window, s.day.desk.mode.code, byte s.day.desk.quorum, byte s.day.desk.share,
      byte s.day.desk.tolerance, byte s.day.desk.overdueLimit, byte s.day.desk.crossoverDays] ++
    optField 8 (s.day.summary.map fun x => bytes16 x.close.day ++ [x.close.cause.code, byte x.tally.points,
      byte x.tally.overdue, byte x.tally.shifts, byte x.tally.done, byte x.tally.deferred]) := by
  unfold State.dayRecord Desk.bytes
  rw [← List.append_assoc _ (bytes16 s.day.desk.length)]
  rfl

/-- `n` optional fields of width `w`, one for each item of a list, the first items first. -/
theorem optFields_eq {α : Type} (w : Nat) (f : α → List Byte) : ∀ (n : Nat) (l : List α), l.length ≤ n →
    (List.finRange n).flatMap (fun i => optField w (l[i.val]?.map f)) =
      (l.flatMap fun a => 1 :: f a) ++ List.replicate ((w + 1) * (n - l.length)) 0
  | 0, l, h => by
    obtain rfl := List.length_eq_zero_iff.mp (Nat.le_zero.mp h)
    rfl
  | n + 1, [], _ => by
    have ih := optFields_eq w f n [] (Nat.zero_le _)
    simp only [List.finRange_succ, List.flatMap_cons, List.flatMap_map, List.getElem?_nil] at ih ⊢
    rw [ih]
    show (0 :: List.replicate w 0) ++ ([] ++ List.replicate ((w + 1) * n) 0) =
      [] ++ List.replicate ((w + 1) * (n + 1)) 0
    rw [List.nil_append, List.nil_append, ← List.replicate_succ, List.replicate_append_replicate,
      Nat.mul_succ, Nat.add_comm]
  | n + 1, a :: l, h => by
    have ih := optFields_eq w f n l (Nat.le_of_succ_le_succ h)
    simp only [List.finRange_succ, List.flatMap_cons, List.flatMap_map, Fin.val_succ, List.getElem?_cons_succ, ih,
      List.length_cons, Nat.add_sub_add_right, List.append_assoc]
    rfl

theorem holdsRecord_eq {s : State} (h : s.holds.length ≤ 8) : s.holdsRecord =
    (s.holds.flatMap fun h => 1 :: itemBytes h.item ++ [portCode h.owner, byte h.lease]) ++
    List.replicate (5 * (8 - s.holds.length)) 0 ++ [byte s.holds.length, byte s.level] := by
  rw [State.holdsRecord, optFields_eq 4 Hold.bytes 8 s.holds h]
  rfl

theorem flatMap_get {α β : Type} {n : Nat} (t : Table α n) (f : α → List β) :
    (List.finRange n).flatMap (fun i => f (t.get i)) = t.cells.flatMap f := by
  obtain ⟨cells, rfl⟩ := t
  exact (List.flatMap_map (f := cells.get) (g := f) ..).symm.trans (by rw [List.map_get_finRange])

theorem Calibration.bytes_eq (c : Calibration) : c.bytes =
    match c with
      | .uncalibrated => List.replicate 14 0
      | .valid o g left => [1, byte left, 1] ++ bytes16 g ++ o.cells.flatMap fun x => 1 :: bytes16 x
      | .spent o g => [2, 0, 1] ++ bytes16 g ++ o.cells.flatMap fun x => 1 :: bytes16 x := by
  cases c with
  | uncalibrated => rfl
  | valid o g left => exact congrArg (_ ++ ·) (flatMap_get o fun x => 1 :: bytes16 x)
  | spent o g => exact congrArg (_ ++ ·) (flatMap_get o fun x => 1 :: bytes16 x)

theorem Reader.stateCode_eq (r : Reader) : r.stateCode =
    if r.enable = false then 0 else if r.loopback = true then 4 else
      match r.phase with | .hunt => 1 | .receiving _ => 2 | .held _ => 3 := by
  unfold Reader.stateCode
  cases r.enable <;> rfl

theorem Reader.record_eq (r : Reader) : r.record =
    [flagByte r.enable, r.rate.code, flagByte r.loopback, byte r.calLife,
      if r.enable = false then 0 else if r.loopback = true then 4 else
        match r.phase with | .hunt => 1 | .receiving _ => 2 | .held _ => 3,
      byte r.fifo.length, flagByte r.headReady, flagByte r.delta] ++
    (match r.cal with
      | .uncalibrated => List.replicate 14 0
      | .valid o g left => [1, byte left, 1] ++ bytes16 g ++ o.cells.flatMap fun x => 1 :: bytes16 x
      | .spent o g => [2, 0, 1] ++ bytes16 g ++ o.cells.flatMap fun x => 1 :: bytes16 x) ++
    [(r.fault.code.map FaultCode.code).getD 0] ++ optField 1 (r.fault.origin.map fun o => [o.code]) ++
    optField 2 (r.fault.lab.map bytes16) ++ optField 2 (r.fault.day.map bytes16) ++
      [byte r.fault.count, r.test.code] := by
  rw [Reader.record, r.stateCode_eq, r.cal.bytes_eq, FaultRecord.bytes]
  simp only [List.append_assoc]
  rfl

theorem Store.record_eq (u : Store) : u.record =
    ([match u.phase with | .idle => 0 | .saving _ => 2 | _ => 1] : List Byte) ++
    (match u.outcome with
      | .noOutcome => [0, 0, 0]
      | .loaded => [1, 0, 0]
      | .loadFailed x => [2, 1, x.code]
      | .saved => [3, 0, 0]
      | .saveFailed x => [4, 1, x.code]) ++ [byte u.writes, 0x50 ||| u.straps.zeroExtend 8] := by
  have hcode : u.code = match u.phase with | .idle => 0 | .saving _ => 2 | _ => 1 := by
    unfold Store.code
    cases u.phase <;> rfl
  rw [Store.record, hcode]
  cases u.outcome <;> rfl

theorem AlertEntry.bytes_eq (e : AlertEntry) : e.bytes = [byte e.number.val, e.serial] ++
      (match e.key.subject with | .line n => [1, byte n.val] | .lot k => [3, byte k.val]) ++
      [match e.key.value with | some v => byte v.val | none => 0xFF] ++ [byte e.kind.code] ++ bytes16 e.day ++
      optField 2 (e.amount.map signed16) ++
      [byte e.repeats, (if e.ports.mp0 then 1 else 0) + if e.ports.mp1 then 2 else 0] := by
  have hsubject : e.key.subject.bytes =
      match e.key.subject with | .line n => [1, byte n.val] | .lot k => [3, byte k.val] := by
    cases e.key.subject <;> rfl
  have hamount : [flagByte e.amount.isSome] ++ signed16 (e.amount.getD 0) = optField 2 (e.amount.map signed16) := by
    cases e.amount <;> rfl
  have hports : e.ports.code = (if e.ports.mp0 then 1 else 0) + if e.ports.mp1 then 2 else 0 := by
    unfold PortSet.code
    cases e.ports.mp0 <;> cases e.ports.mp1 <;> rfl
  rw [AlertEntry.bytes, hsubject, hports, List.append_assoc _ [flagByte _], hamount]
  rfl

/-- Settles O36: the length of each record from its fields' widths, and each record from its definition's cases. -/
theorem readDataLengths : Obligations.ReadDataLengths := by
  unfold Obligations.ReadDataLengths
  refine ⟨fun s n k rl pt c p e => ⟨lineRecord_length _, pt.bytes_length, c.driftBytes_length, pt.driftBytes_length,
      partBytes_length _, lotRecord_length _, dayRecord_length s, holdsRecord_length s, Reader.record_length _,
      Store.record_length _, rfl, e.bytes_length⟩,
    fun n i w b t q => ⟨rfl, rfl, signed16_of_nonneg, signed16_of_neg, rfl, rfl, rfl, valueSet_bits t⟩,
    ⟨lineRecord_none, fun _ => rfl⟩, Point.bytes_eq, fun _ _ _ _ h => Point.driftBytes_final h, fun _ => rfl, fun _ => rfl,
    ⟨lotRecord_none, lotRecord_some⟩, dayRecord_eq, fun _ h => holdsRecord_eq h, Reader.record_eq, Store.record_eq,
    fun s p e => ⟨rfl, e.bytes_eq⟩, rfl, rfl, rfl, rfl, rfl, rfl, fun _ _ _ => rfl, fun _ => rfl, rfl, rfl, rfl, rfl,
    fun _ => rfl, fun _ _ => ⟨rfl, rfl⟩, rfl, rfl, rfl, rfl, rfl, rfl⟩

end Sys2Proof.Machine
end
